-- ==== Sys2Proof/Word.lean ====
section
/-! DEFINITION. The word types of the controller: every register is 16 bits wide, the link carries bytes
(00_scope, Conventions), a frame is 48 bits and a receipt 40 (R6, R19), and there are 32 sources, 24 sense
lines, 16 channels and 7 reaction sets. -/

namespace Sys2Proof

/-- A byte of a frame or of a receipt (R6, R19). -/
abbrev Byte := BitVec 8

/-- A 16-bit register word (00_scope, Conventions: "Every register is 16 bits wide"). -/
abbrev Word := BitVec 16

/-- The six bytes Q0 to Q5 of a request frame, Q0 in the highest eight bits (R6). -/
abbrev Frame48 := BitVec 48

/-- The five bytes P0 to P4 of a receipt, P0 in the highest eight bits (R19). -/
abbrev Receipt40 := BitVec 40

/-- A source number: external 0 to 23, internal 24 to 31 (chapter 4). -/
abbrev SourceId := Fin 32

/-- A sense line number, L0 to L23. -/
abbrev LineId := Fin 24

/-- An actuation channel number, A0 to A15 (chapter 9). -/
abbrev Channel := Fin 16

/-- A reaction set by its place in the table: set number k of the manual is `k - 1` here (R139). -/
abbrev SetId := Fin 7

end Sys2Proof
end

