-- ==== Sys2Proof/Machine/RegMap.lean ====
section
/-! DEFINITION. The register map: which index names which register, and the access class of each register
(R13, R160, R163, R164). -/

namespace Sys2Proof.Machine

/-- The registers of the map (R160), with the descriptor block (R163) and the reaction-set block (R164). -/
inductive Reg where
  | ident | mode | action | refusal | armcheck | linkfault | linkcount | zones | policy | silwin
  | maskLo | maskHi | arm | disarm | armedLo | armedHi | claim | complete | stack | stack2
  | claimrec (n : Fin 4)
  | raise | pendLo | pendHi | comprec0 | comprec1 | lockrec | locktick
  | operate | safe | effective | readback | rbcheck | active | release
  | mismatchdet | mismatchset | frozen | frozenlvl
  | jwin (n : Fin 4)
  | jstat | jfilter | timeHi | timeLo
  /-- Word W0 to W3 of a source's descriptor. -/
  | desc (s : SourceId) (w : Fin 4)
  /-- Word A (false) or B (true) of a reaction set. -/
  | react (k : SetId) (wordB : Bool)
  deriving DecidableEq, Repr

/-- The registers below the descriptor block, by index (R160). -/
def regTable : List (Nat × Reg) :=
  [(0x00, .ident), (0x01, .mode), (0x02, .action), (0x03, .refusal), (0x04, .armcheck),
   (0x05, .linkfault), (0x06, .linkcount), (0x07, .zones), (0x08, .policy), (0x09, .silwin),
   (0x0A, .maskLo), (0x0B, .maskHi), (0x0C, .arm), (0x0D, .disarm), (0x0E, .armedLo),
   (0x0F, .armedHi), (0x10, .claim), (0x11, .complete), (0x12, .stack), (0x13, .stack2),
   (0x14, .claimrec 0), (0x15, .claimrec 1), (0x16, .claimrec 2), (0x17, .claimrec 3),
   (0x18, .raise), (0x19, .pendLo), (0x1A, .pendHi), (0x1B, .comprec0), (0x1C, .comprec1),
   (0x1D, .lockrec), (0x1E, .locktick),
   (0x20, .operate), (0x21, .safe), (0x22, .effective), (0x23, .readback), (0x24, .rbcheck),
   (0x25, .active), (0x26, .release), (0x27, .mismatchdet), (0x28, .mismatchset),
   (0x29, .frozen), (0x2A, .frozenlvl),
   (0x30, .jwin 0), (0x31, .jwin 1), (0x32, .jwin 2), (0x33, .jwin 3), (0x34, .jstat),
   (0x35, .jfilter), (0x38, .timeHi), (0x39, .timeLo)]

/-- The register at an index; none where the index is not implemented (R13, R160). -/
def regAt (index : Byte) : Option Reg :=
  let n := index.toNat
  if n < 0x40 then regTable.lookup n
  else if n < 0xC0 then some (.desc (Fin.ofNat 32 ((n - 0x40) / 4)) (Fin.ofNat 4 (n % 4)))
  else if n < 0xCE then some (.react (Fin.ofNat 7 ((n - 0xC0) / 2)) (n % 2 == 1))
  else none

/-- The access classes of R13. -/
inductive Access where
  /-- Read, Write and Hold allowed (the classes RW, RW-S, RW1C and RWC). -/
  | readWrite
  /-- Read allowed only (the classes RO and RO-SE). -/
  | readOnly
  /-- Write allowed only (the class WO). -/
  | writeOnly
  deriving DecidableEq, Repr

/-- The access class of each register (R13). -/
def Reg.access : Reg → Access
  | .zones | .policy | .silwin | .maskLo | .maskHi | .operate | .safe | .rbcheck | .jfilter => .readWrite
  | .linkfault | .mismatchdet | .linkcount => .readWrite
  | .desc _ w => if w = 3 then .readOnly else .readWrite
  | .react _ _ => .readWrite
  | .action | .arm | .disarm | .complete | .raise | .release => .writeOnly
  | .ident | .mode | .refusal | .armcheck | .armedLo | .armedHi | .stack | .stack2 | .claimrec _
  | .pendLo | .pendHi | .comprec0 | .comprec1 | .locktick | .effective | .readback | .active
  | .mismatchset | .frozen | .frozenlvl | .jwin _ | .jstat | .timeLo => .readOnly
  | .claim | .lockrec | .timeHi => .readOnly

/-- The index of descriptor word `w` of source `s`: 0x40 + 4s + w (R163). -/
def descIndex (s : BitVec 5) (w : BitVec 2) : Byte :=
  0x40 + 4 * s.zeroExtend 8 + w.zeroExtend 8

/-- The index of word A or B of reaction set `k`: 0xC0 + 2(k - 1), and the next index for B (R139). -/
def reactIndex (k : BitVec 3) (wordB : Bool) : Byte :=
  0xC0 + 2 * (k.zeroExtend 8 - 1) + (if wordB then 1 else 0)

end Sys2Proof.Machine
end

