-- ==== Sys2Proof/Config.lean ====
section
/-! DEFINITION. The constants that the manual fixes for the part. The manual leaves no result of a command
open, so there is no opaque free value here (INVENTORY.md, "What the manual leaves open"). -/

namespace Sys2Proof.Config

/-- Revision field of IDENT (R49). -/
def revision : BitVec 4 := 1

/-- Pattern field of IDENT (R49). -/
def identPattern : Byte := 0x6E

/-- Generator polynomial of the CRC-8 without its leading term (R7). -/
def crcPolynomial : Byte := 0x2F

/-- Initial value of the CRC register (R7). -/
def crcInitial : Byte := 0xFF

/-- Idle count at which a frame in progress is terminated, in scan ticks (R5). -/
def idleLimit : Nat := 20

/-- Length of the reset interval in scan ticks (R52). -/
def resetInterval : Nat := 10

/-- Number of clock edges of a frame of correct length (R9). -/
def frameEdges : Nat := 48

/-- Value at which the edge count saturates; it means "more than 48" (R2). -/
def edgeLimit : Nat := 49

/-- Greatest depth of the service stack (R96). -/
def stackLimit : Nat := 4

/-- Greatest number of unread journal records (R155). -/
def journalLimit : Nat := 48

/-- Ticks per unit of a claim deadline (R68, R127). -/
def claimUnit : Nat := 10

/-- Ticks per unit of a service deadline (R68, R131). -/
def serviceUnit : Nat := 100

/-- Ticks per unit of the host-silence window (R136). -/
def silenceUnit : Nat := 100

/-- POLICY after a hard reset: compound enable, discard-new, threshold 0, window 3 (R55). -/
def policyReset : Word := 0x0301

/-- JFILTER after a hard reset: every filterable kind enabled (R55, R153). -/
def filterReset : Word := 0x038E

end Sys2Proof.Config
end

