-- ==== Sys2Proof/Syntax.lean ====
section
/-! DEFINITION. The commands of the controller: one constructor per row of spec/opcode_table.json, with the
operands that the rules give the row. A command that is a request frame carries the frame's own fields (R6);
the CRC and the fixed fields are computed from them. -/

namespace Sys2Proof

/-- The reach of a request frame with its Node field (R6, R12). -/
inductive Dest where
  /-- To the node of this ID, 1 to 15. -/
  | directed (id : BitVec 4)
  /-- To every node of this zone, 1 to 15. -/
  | zone (z : BitVec 4)
  /-- To every node; the Node field is 0. -/
  | broadcast
  deriving DecidableEq, Repr

/-- The operation field of a request frame (R6). -/
inductive FrameOp where
  | probe | read | write | hold
  deriving DecidableEq, Repr

/-- The commands: every row of spec/opcode_table.json. In a frame command `dest` or `node` is the addressee and
`tag` the tag that the next receipt returns. -/
inductive Instr where
  /-- POWER_ON_RESET: the internal power-on reset asserts (R50). -/
  | powerOnReset
  /-- PIN_RESET: NRST falls (R51). -/
  | pinReset
  /-- HARD_RESET_RELEASE: the hard reset is released with the two straps at these levels (R49, R52). -/
  | hardResetRelease (ida idb : BitVec 2)
  /-- RESET_INTERVAL_END: the reset interval ends (R52). -/
  | resetIntervalEnd
  /-- LSEL_FALL: LSEL goes low (R1). -/
  | lselFall
  /-- NULL_FRAME: LSEL falls (if it is high) and rises with no clock edge between (R4). -/
  | nullFrame
  /-- IDLE_TIMEOUT: the idle count of the frame in progress reaches 20 (R5). -/
  | idleTimeout
  /-- FRAME_REJECTION: a frame of `edges` clock edges whose first bits are the highest bits of `raw`, closed
  by LSEL; its meaning applies the admission checks (R8 to R14). -/
  | frameRejection (edges : Nat) (raw : Frame48)
  /-- PROBE: a directed Probe (R23). -/
  | probe (node tag : BitVec 4)
  /-- HOLD: a directed Hold of the register at `index`; the data word is ignored (R34). -/
  | hold (node : BitVec 4) (index : Byte) (data : Word) (tag : BitVec 4)
  /-- REGISTER_WRITE: a Write of a register that has no row of its own (R27). -/
  | registerWrite (dest : Dest) (index : Byte) (data : Word) (tag : BitVec 4)
  /-- LINKFAULT_WRITE: a Write of LINKFAULT (R15). -/
  | linkfaultWrite (dest : Dest) (data : Word) (tag : BitVec 4)
  /-- LINKCOUNT_WRITE: a Write of LINKCOUNT (R16). -/
  | linkcountWrite (dest : Dest) (data : Word) (tag : BitVec 4)
  /-- MISMATCHDET_WRITE: a Write of MISMATCHDET (R149). -/
  | mismatchdetWrite (dest : Dest) (data : Word) (tag : BitVec 4)
  /-- DESCRIPTOR_WRITE: a Write of word W0, W1 or W2 of a source's descriptor (R31). -/
  | descriptorWrite (dest : Dest) (source : BitVec 5) (word : BitVec 2) (data : Word) (tag : BitVec 4)
  /-- REACTION_SET_WRITE: a Write of word A (false) or B (true) of reaction set 1 to 7 (R139). -/
  | reactionSetWrite (dest : Dest) (set : BitVec 3) (wordB : Bool) (data : Word) (tag : BitVec 4)
  /-- TIME_HI_READ: a directed Read of TIME_HI; the data word is ignored (R26). -/
  | timeHiRead (node : BitVec 4) (data : Word) (tag : BitVec 4)
  /-- LOCKREC_READ: a directed Read of LOCKREC (R25). -/
  | lockrecRead (node : BitVec 4) (data : Word) (tag : BitVec 4)
  /-- CLAIM: a directed Read of CLAIM (R98). -/
  | claim (node : BitVec 4) (data : Word) (tag : BitVec 4)
  /-- COMPLETE: a Write of COMPLETE; the data word names the source (R105). -/
  | complete (dest : Dest) (data : Word) (tag : BitVec 4)
  /-- RAISE: a Write of RAISE; the data word becomes the detail word (R110). -/
  | raise (dest : Dest) (data : Word) (tag : BitVec 4)
  /-- ARM: a Write of ARM; the data word names the source (R72). -/
  | arm (dest : Dest) (data : Word) (tag : BitVec 4)
  /-- DISARM: a Write of DISARM; the data word names the source (R73). -/
  | disarm (dest : Dest) (data : Word) (tag : BitVec 4)
  /-- RELEASE: a Write of RELEASE; the data word names the reaction set (R145). -/
  | release (dest : Dest) (data : Word) (tag : BitVec 4)
  /-- START: ACTION code 1 (R42). -/
  | start (dest : Dest) (tag : BitVec 4)
  /-- STOP: ACTION code 2 (R43). -/
  | stop (dest : Dest) (tag : BitVec 4)
  /-- RECOVER: ACTION code 3 (R47). -/
  | recover (dest : Dest) (tag : BitVec 4)
  /-- SEAL: ACTION code 4 (R37). -/
  | sealNode (dest : Dest) (tag : BitVec 4)
  /-- FORCE_LOCKDOWN: ACTION code 5 (R44). -/
  | forceLockdown (dest : Dest) (tag : BitVec 4)
  /-- REINIT: ACTION code 6 (R48). -/
  | reinit (dest : Dest) (tag : BitVec 4)
  /-- JOURNAL_TAKE: ACTION code 7 (R158). -/
  | journalTake (dest : Dest) (tag : BitVec 4)
  /-- JOURNAL_CLEAR: ACTION code 8 (R159). -/
  | journalClear (dest : Dest) (tag : BitVec 4)
  /-- SCAN_TICK: a scan tick at which the sense lines L0 to L23 and the readback inputs B0 to B15 stand at
  these levels (R93). -/
  | scanTick (lines : BitVec 24) (readback : Word)
  /-- SERVICE_DEADLINE_EXPIRY: the service deadline of an ordinary stack top reaches 0 (R133). -/
  | serviceDeadlineExpiry
  /-- NESTED_OVERRUN: the service deadline of an OVERRUN or COMPOUND top reaches 0 (R135). -/
  | nestedOverrun
  /-- CLAIM_DEADLINE_EXPIRY: the claim deadline of this source's pending entry reaches 0 (R129). -/
  | claimDeadlineExpiry (source : BitVec 5)
  /-- WATCHDOG_EXPIRY: the host-silence watchdog reaches 0 (R137). -/
  | watchdogExpiry
  /-- LCK_RISING_EDGE: LCK rises with LDI at this level (R2). -/
  | lckRisingEdge (ldi : Bool)
  /-- LCK_FALLING_EDGE: LCK falls (R18). -/
  | lckFallingEdge
  /-- LSEL_RISE: LSEL goes high, in any link state (R1). -/
  | lselRise
  /-- FRAME_DROPPED: a complete frame of these fields with a correct CRC; its meaning applies the Addressing
  check (R12). -/
  | frameDropped (dest : Dest) (op : FrameOp) (index : Byte) (data : Word) (tag : BitVec 4)
  deriving DecidableEq, Repr

end Sys2Proof
end

