-- ==== Sys2Proof/WellFormed.lean ====
section
/-! DEFINITION. Which commands are well formed: a frame command is well formed where its frame passes the Form
check (R11) and, for the rows that name a kind of register, where the operands name such a register. The
meanings are total: an ill-formed frame command is a frame that the admission checks reject. -/

namespace Sys2Proof

open Machine

/-- The addressee is one the Form check lets through: no node and no zone has the number 0 (R11). -/
def Dest.wf : Dest → Bool
  | .directed id => id != 0
  | .zone z => z != 0
  | .broadcast => true

/-- The registers whose writes have no row of their own in the table: REGISTER_WRITE is for these (R27). -/
def plainWritable : Reg → Bool
  | .zones | .policy | .silwin | .maskLo | .maskHi | .operate | .safe | .rbcheck | .jfilter => true
  | _ => false

/-- The registers that may be held (R13, R34). -/
def holdable (r : Reg) : Bool := r.access == .readWrite

/-- A command's operands are ones its row allows. -/
def wellFormed : Instr → Bool
  | .powerOnReset | .pinReset | .hardResetRelease _ _ | .resetIntervalEnd => true
  | .lselFall | .nullFrame | .idleTimeout => true
  | .frameRejection edges _ => edges != 0
  | .probe node _ => node != 0
  | .hold node index _ _ => node != 0 && (regAt index).any holdable
  | .registerWrite dest index _ _ => dest.wf && (regAt index).any plainWritable
  | .linkfaultWrite dest _ _ => dest.wf
  | .linkcountWrite dest _ _ => dest.wf
  | .mismatchdetWrite dest _ _ => dest.wf
  | .descriptorWrite dest _ word _ _ => dest.wf && word != 3
  | .reactionSetWrite dest set _ _ _ => dest.wf && set != 0
  | .timeHiRead node _ _ => node != 0
  | .lockrecRead node _ _ => node != 0
  | .claim node _ _ => node != 0
  | .complete dest _ _ => dest.wf
  | .raise dest _ _ => dest.wf
  | .arm dest _ _ => dest.wf
  | .disarm dest _ _ => dest.wf
  | .release dest _ _ => dest.wf
  | .start dest _ => dest.wf
  | .stop dest _ => dest.wf
  | .recover dest _ => dest.wf
  | .sealNode dest _ => dest.wf
  | .forceLockdown dest _ => dest.wf
  | .reinit dest _ => dest.wf
  | .journalTake dest _ => dest.wf
  | .journalClear dest _ => dest.wf
  | .scanTick _ _ => true
  | .serviceDeadlineExpiry | .nestedOverrun | .claimDeadlineExpiry _ | .watchdogExpiry => true
  | .lckRisingEdge _ | .lckFallingEdge | .lselRise => true
  | .frameDropped dest op index data _ =>
    dest.wf && (dest matches .directed _ || op == .write) && (op != .probe || (index == 0 && data == 0))

end Sys2Proof
end

