-- ==== Sys2Proof/Decode.lean ====
section
/-! DEFINITION. Reading a command from a word. The opcode table gives no row any bits ("fields": [] in every
row), because the controller takes events and frames, not encoded instructions; so no word spells a command.
DEDUCED, safe: notes/assumptions/3.md. -/

namespace Sys2Proof

/-- The command that a table word of `nbits` bits spells: none, since no row of the table gives bits. The
frames of the host link are read by `Machine.parseFrame`, from the state's shift register (R6). -/
def decodeTableWord (_nbits _w : Nat) : Option Instr := none

end Sys2Proof
end

