-- ==== Sys2Proof/Machine/Bits.lean ====
section
/-! DEFINITION. The bit-level helpers of the model: fields of words, saturating counts, and the CRC-8. -/

namespace Sys2Proof.Machine

/-- A saturating increment: the count stays at its greatest value (R16, R79, R84, R156). -/
def satInc {n : Nat} (b : BitVec n) : BitVec n :=
  if b = BitVec.allOnes n then b else b + 1

/-- The word with bit `i` set. -/
def setBit {n : Nat} (m : BitVec n) (i : Nat) : BitVec n :=
  m ||| (1#n <<< i)

/-- The word whose bit `i` is `f i`. -/
def wordOf (f : Channel → Bool) : Word := BitVec.ofFnLE f

/-- One step of the CRC register (R7). -/
def crcStep (r : Byte) : Byte :=
  if r.getLsbD 7 then (r <<< 1) ^^^ Config.crcPolynomial else r <<< 1

/-- One byte taken into the CRC register: combined by exclusive-or, then eight steps (R7). -/
def crcByte (r b : Byte) : Byte :=
  crcStep (crcStep (crcStep (crcStep (crcStep (crcStep (crcStep (crcStep (r ^^^ b))))))))

/-- The CRC-8 of bytes in transmission order (R7). -/
def crc8 (bytes : List Byte) : Byte :=
  bytes.foldl crcByte Config.crcInitial

end Sys2Proof.Machine
end

