-- ==== Sys2Proof/Machine/State.lean ====
section
/-! DEFINITION. The state of the controller, grouped by the manual's blocks (00_scope, Block Overview), the stop
reasons, and the state as power-on reset leaves it (R50, R55 to R58). -/

namespace Sys2Proof.Machine

/-- Why a command would stop with a fault. The manual gives no command that stops the controller: every
malformed or misplaced request is answered by a rejection or a refusal receipt, which are ordinary next states.
So there is no constructor, and no command ever faults. -/
inductive Fault
  deriving DecidableEq, Repr

/-- Why a command would be refused by the model. -/
inductive Refusal where
  /-- Raised by `exec` alone, for a row of the table that has no meaning yet; safe. No arm raises it. -/
  | notModelled (mnemonic : String)
  deriving DecidableEq, Repr

/-- The device modes (R38). -/
inductive Mode where
  | configuring | running | lockdown
  deriving DecidableEq, Repr

/-- The link states (R1). -/
inductive LinkPhase where
  | ready | shifting | spent | barred
  deriving DecidableEq, Repr

/-- The states of a source (R69, R79). -/
inductive SrcState where
  | disarmed | quiet | pending | serving | absorbed
  deriving DecidableEq, Repr

/-- The reset causes (R53); the value 0 never occurs. -/
inductive ResetCause where
  | powerOn | pin | reinit
  deriving DecidableEq, Repr

/-- The outcomes of the previous-frame record (R20). -/
inductive FrameOutcome where
  | origin | done | empty | refused | holdBroken
  | rejectedLength | rejectedCheck | rejectedForm | rejectedTarget
  deriving DecidableEq, Repr

/-- The state of a claim deadline or of a service deadline. A service deadline that runs down is suspended
while its entry is not the top, which its place on the stack says (R127, R131). -/
inductive Deadline where
  /-- The source gives no deadline. -/
  | none
  /-- Counting, or suspended, with this many ticks left. -/
  | runningDown (remainder : Nat)
  /-- Expired during the entry's present stay. -/
  | spent
  deriving DecidableEq, Repr

/-- The previous-frame record (R21). -/
structure PrevFrame where
  outcome : FrameOutcome
  tag     : BitVec 4
  data    : Word
  deriving DecidableEq, Repr

/-- A hold that is in place (R34, R35). -/
structure HoldRecord where
  index   : Byte
  changed : Bool
  deriving DecidableEq, Repr

/-- Link Interface (R1, R2, R15 to R21, R34). -/
structure LinkUnit where
  /-- Level of the LSEL pin: true is high. -/
  lselHigh  : Bool
  phase     : LinkPhase
  /-- Count of LCK rising edges of the frame in progress, 0 to 49. -/
  edges     : Nat
  /-- The bits received, the latest in bit 0. -/
  shift     : Frame48
  /-- Idle count of scan ticks, 0 to 19 between commands. -/
  idle      : Nat
  /-- The node has decided to drive LDO and has not released it. -/
  driving   : Bool
  /-- The LDO pin: none while it is released. -/
  ldo       : Option Bool
  /-- The receipt that the node built at its latest decision to drive (R17, R19). -/
  receipt   : Receipt40
  linkFault : BitVec 4
  linkCount : Byte
  prev      : PrevFrame
  hold      : Option HoldRecord
  deriving DecidableEq, Repr

/-- The hard resets and the reset interval (R50 to R53). -/
structure ResetUnit where
  /-- A hard reset is asserted. -/
  held         : Bool
  /-- Ticks of the reset interval still to come; 0 outside the interval. -/
  intervalLeft : Nat
  /-- Power-on reset was asserted since the last completed reset interval. -/
  powerOnSeen  : Bool
  deriving DecidableEq, Repr

/-- Register File, with the policy registers it keeps (R32, R33, R37, R12, R75, R136). -/
structure RegFile where
  refusal  : Word
  /-- Number of the first failed Arm validation check. -/
  armcheck : BitVec 4
  sealed   : Bool
  zones    : Word
  policy   : Word
  silwin   : Word
  deriving DecidableEq, Repr

/-- Mode Controller (R38, R46, R49, R53, R125). -/
structure ModeUnit where
  mode       : Mode
  resetCause : ResetCause
  nodeId     : BitVec 4
  lockrec    : Word
  locktick   : Word
  causeSeen  : Bool
  deriving DecidableEq, Repr

/-- Scan Unit (R59 to R61). -/
structure ScanUnit where
  /-- The samples of L0 to L23 at the latest tick. -/
  rawLines    : BitVec 24
  /-- The filtered levels of L0 to L23. -/
  filtered    : BitVec 24
  /-- Count of consecutive differing samples of each line. -/
  settle      : Vector Nat 24
  /-- The samples of B0 to B15 at the latest tick. -/
  rawReadback : Word
  /-- A tick has been processed since the hard reset, so the filtered levels have been set. -/
  started     : Bool
  deriving DecidableEq, Repr

/-- A place in the latch order, with the tick at which it was taken (R83, R103). -/
structure Latch where
  position : Nat
  tick     : BitVec 32
  deriving DecidableEq, Repr

/-- A source: its descriptor words and its runtime record (R66 to R69, R79). The armed bit is the state's being
other than `disarmed`, and repeat-waiting is the repeat count's being other than 0. -/
structure Source where
  w0          : Word
  w1          : Word
  w2          : Word
  state       : SrcState
  count       : Byte
  repeatCount : Byte
  detail      : Word
  latch       : Option Latch
  /-- The overrun mark. -/
  overrun     : Bool
  /-- The claim-deadline-expired mark. -/
  expired     : Bool
  deriving DecidableEq, Repr

/-- Source Table: the sources and their mask bits, bit s of source s (R74, R79). -/
structure SourceTable where
  table : Vector Source 32
  mask  : BitVec 32
  deriving DecidableEq, Repr

/-- An entry of the pending list (R86); rank, level and position are the source's own. -/
structure PendEntry where
  source   : SourceId
  deadline : Deadline
  deriving DecidableEq, Repr

/-- Arbiter (R83, R86, R91). -/
structure Arbiter where
  /-- The pending list, head first. -/
  waiting      : List PendEntry
  /-- The next latch-sequence position to be taken. -/
  nextPosition : Nat
  /-- The ALERT pin is driven low (asserted). -/
  alert        : Bool
  deriving DecidableEq, Repr

/-- An entry of the service stack (R96). -/
structure StackEntry where
  source    : SourceId
  announced : Bool
  deadline  : Deadline
  deriving DecidableEq, Repr

/-- Four 16-bit words: a journal record, the take window, or the claimed record (R103, R151). -/
structure Words4 where
  w0 : Word
  w1 : Word
  w2 : Word
  w3 : Word
  deriving DecidableEq, Repr

/-- Service Unit (R96, R103, R118). -/
structure ServiceUnit where
  /-- The service stack, top first. -/
  stack    : List StackEntry
  claimrec : Words4
  comprec0 : Word
  comprec1 : Word
  deriving DecidableEq, Repr

/-- Deadline Unit: the host-silence watchdog, none while it is Stopped (R136). The claim and service deadlines
stand in the entries they belong to. -/
structure DeadlineUnit where
  watchdog : Option Nat
  deriving DecidableEq, Repr

/-- A reaction set: its two words, and its binding while it is active (R139, R140). -/
structure ReactionSet where
  wordA   : Word
  wordB   : Word
  /-- The binding, each source at most once; none while the set is not active. -/
  binding : Option (List SourceId)
  deriving DecidableEq, Repr

/-- Actuation Unit (R138 to R149); bit c belongs to channel c. -/
structure ActuationUnit where
  operate     : Word
  safe        : Word
  /-- The effective levels, which the pins A0 to A15 drive. -/
  effective   : Word
  moved       : Word
  sets        : Vector ReactionSet 7
  frozen      : Word
  frozenLevel : Word
  rbcheck     : Word
  counters    : Vector Nat 16
  mismatchSet : Word
  mismatchDet : Word
  deriving DecidableEq, Repr

/-- Journal (R151 to R159). -/
structure JournalUnit where
  /-- The unread records, oldest first. -/
  unread : List Words4
  window : Words4
  lost   : Byte
  filter : Word
  deriving DecidableEq, Repr

/-- Tick Counter with its snapshot (R26, R95). -/
structure TickUnit where
  count    : BitVec 32
  snapshot : BitVec 32
  deriving DecidableEq, Repr

/-- The whole controller, and the queue of commands that wait for it. -/
structure State where
  /-- The commands still to be taken, the first one next. -/
  pending : List Instr
  link    : LinkUnit
  rst     : ResetUnit
  regs    : RegFile
  mc      : ModeUnit
  scan    : ScanUnit
  srcs    : SourceTable
  arb     : Arbiter
  svc     : ServiceUnit
  dl      : DeadlineUnit
  act     : ActuationUnit
  jn      : JournalUnit
  tc      : TickUnit
  deriving DecidableEq, Repr

/-- Four words of zeros (R55 to R57). -/
def Words4.zero : Words4 := ⟨0, 0, 0, 0⟩

/-- The value of IDENT for a node ID (R49). -/
def identWord (nodeId : BitVec 4) : Word :=
  Config.revision ++ nodeId ++ Config.identPattern

/-- The descriptor word W0 of a source after a hard reset (R58). -/
def resetW0 (s : SourceId) : Word :=
  match s.val with
  | 24 => 0xF800
  | 25 => 0xF908
  | 26 => 0xFA00
  | 27 => 0xFB00
  | 28 => 0xFC18
  | 29 => 0xFD08
  | 30 => 0xFE00
  | 31 => 0xFF10
  | _ => 0

/-- A source after a hard reset: only OVERRUN (25) and COMPOUND (28) are armed (R55, R56, R58). -/
def resetSource (s : SourceId) : Source :=
  { w0 := resetW0 s, w1 := 0, w2 := 0
    state := if s = 25 ∨ s = 28 then .quiet else .disarmed
    count := 0, repeatCount := 0, detail := 0, latch := none, overrun := false, expired := false }

/-- A reaction set after a hard reset: all Pass and not active (R55, R56). -/
def resetReactionSet : ReactionSet := { wordA := 0, wordB := 0, binding := none }

/-- The controller while power-on reset is asserted, with nothing commanded yet: every register at its
hard-reset value (R50, R55 to R58). The node ID, the samples and the LSEL level, for which the manual gives no
value before the release and the first tick, are DESIGN CHOICE, unsafe: notes/assumptions/2.md. -/
def State.reset : State :=
  { pending := []
    link :=
      { lselHigh := true, phase := .barred, edges := 0, shift := 0, idle := 0, driving := false
        ldo := none, receipt := 0, linkFault := 0, linkCount := 0
        prev := { outcome := .origin, tag := 0, data := identWord 0 }, hold := none }
    rst := { held := true, intervalLeft := 0, powerOnSeen := true }
    regs :=
      { refusal := 0, armcheck := 0, sealed := false, zones := 0, policy := Config.policyReset, silwin := 0 }
    mc :=
      { mode := .configuring, resetCause := .powerOn, nodeId := 0, lockrec := 0, locktick := 0
        causeSeen := false }
    scan :=
      { rawLines := 0, filtered := 0, settle := Vector.replicate 24 0, rawReadback := 0, started := false }
    srcs := { table := Vector.ofFn resetSource, mask := 0 }
    arb := { waiting := [], nextPosition := 0, alert := false }
    svc := { stack := [], claimrec := .zero, comprec0 := 0, comprec1 := 0 }
    dl := { watchdog := none }
    act :=
      { operate := 0, safe := 0, effective := 0, moved := 0, sets := Vector.replicate 7 resetReactionSet
        frozen := 0, frozenLevel := 0, rbcheck := 0, counters := Vector.replicate 16 0
        mismatchSet := 0, mismatchDet := 0 }
    jn := { unread := [], window := .zero, lost := 0, filter := Config.filterReset }
    tc := { count := 0, snapshot := 0 } }

end Sys2Proof.Machine
end

