-- ==== Sys2Proof/Machine/Operands.lean ====
section
/-! DEFINITION. The operands of commands and the values of registers: the fields of a request frame (R6), the
fields of the descriptor words (R66 to R68), the fields of the policy registers, and the word that a Read of
each register returns (R24, R160). -/

namespace Sys2Proof.Machine

/-! ## Request frames -/

/-- The fields of a request frame, exactly as received (R6). -/
structure Request where
  reach   : BitVec 2
  op      : BitVec 2
  node    : BitVec 4
  index   : Byte
  data    : Word
  tag     : BitVec 4
  /-- Bits 3:0 of Q4, which must be zero. -/
  reserved : BitVec 4
  crc     : Byte
  deriving DecidableEq, Repr

/-- The 40 bits Q0 to Q4 of a request. -/
def Request.body (r : Request) : BitVec 40 :=
  r.reach ++ r.op ++ r.node ++ r.index ++ r.data ++ r.tag ++ r.reserved

/-- The bytes of a 40-bit word in transmission order. -/
def bytes5 (b : BitVec 40) : List Byte :=
  [b.extractLsb' 32 8, b.extractLsb' 24 8, b.extractLsb' 16 8, b.extractLsb' 8 8, b.extractLsb' 0 8]

/-- The bytes of a 32-bit word in transmission order. -/
def bytes4 (b : BitVec 32) : List Byte :=
  [b.extractLsb' 24 8, b.extractLsb' 16 8, b.extractLsb' 8 8, b.extractLsb' 0 8]

/-- The six bytes of a request. -/
def Request.frame (r : Request) : Frame48 := r.body ++ r.crc

/-- The fields of the 48 bits of a frame (R6). -/
def parseFrame (f : Frame48) : Request :=
  { reach := f.extractLsb' 46 2, op := f.extractLsb' 44 2, node := f.extractLsb' 40 4
    index := f.extractLsb' 32 8, data := f.extractLsb' 16 16, tag := f.extractLsb' 12 4
    reserved := f.extractLsb' 8 4, crc := f.extractLsb' 0 8 }

/-- The Check check passes: the CRC-8 of Q0 to Q4 equals Q5 (R10). -/
def Request.crcOk (r : Request) : Bool := crc8 (bytes5 r.body) == r.crc

/-- The code of an operation (R6). -/
def opCode : FrameOp → BitVec 2
  | .probe => 0
  | .read => 1
  | .write => 2
  | .hold => 3

/-- The operation that a code names (R6). -/
def opOf (c : BitVec 2) : FrameOp :=
  if c = 0 then .probe else if c = 1 then .read else if c = 2 then .write else .hold

/-- The Reach field of an addressee (R6). -/
def destReach : Dest → BitVec 2
  | .directed _ => 0
  | .zone _ => 1
  | .broadcast => 2

/-- The Node field of an addressee (R6). -/
def destNode : Dest → BitVec 4
  | .directed id => id
  | .zone z => z
  | .broadcast => 0

/-- The frame of an operation on a register, with its CRC (R6, R7). -/
def request (dest : Dest) (op : FrameOp) (index : Byte) (data : Word) (tag : BitVec 4) : Request :=
  let r : Request :=
    { reach := destReach dest, op := opCode op, node := destNode dest, index := index, data := data
      tag := tag, reserved := 0, crc := 0 }
  { r with crc := crc8 (bytes5 r.body) }

/-- The Form check fails (R11). -/
def Request.formFault (r : Request) : Bool :=
  r.reach == 3
  || r.reserved != 0
  || ((r.reach == 1 || r.reach == 2) && opOf r.op != .write)
  || (r.reach == 2 && r.node != 0)
  || (r.reach == 1 && r.node == 0)
  || (r.reach == 0 && r.node == 0)
  || (opOf r.op == .probe && (r.index != 0 || r.data != 0))

/-- The frame is directed (R6). -/
def Request.isDirected (r : Request) : Bool := r.reach == 0

/-! ## Descriptor fields -/

/-- The classes of a source, with COMPOUND's (R66). -/
inductive Class where
  | notice | fault | critical | compound
  deriving DecidableEq, Repr

/-- The class that bits 4:3 of W0 give (R66). -/
def classOf (c : BitVec 2) : Class :=
  if c = 0 then .notice else if c = 1 then .fault else if c = 2 then .critical else .compound

/-- The rank of a class: Compound above Critical above Fault above Notice (R66). -/
def classRank : Class → Nat
  | .notice => 0
  | .fault => 1
  | .critical => 2
  | .compound => 3

/-- The triggers of external sources (R62); the values 5 to 7 are stored but cannot be armed. -/
inductive Trigger where
  | levelHigh | levelLow | rising | falling | both | unusable
  deriving DecidableEq, Repr

/-- The trigger that bits 2:0 of W0 give (R62). -/
def triggerOf (t : BitVec 3) : Trigger :=
  if t = 0 then .levelHigh else if t = 1 then .levelLow else if t = 2 then .rising
  else if t = 3 then .falling else if t = 4 then .both else .unusable

/-- When a source applies its reaction set (R67); 3 is stored but fails Arm validation. -/
inductive ReactWhen where
  | never | atLatch | atDeadline | unusable
  deriving DecidableEq, Repr

/-- The react-when that bits 8:7 of W1 give (R67). -/
def reactWhenOf (c : BitVec 2) : ReactWhen :=
  if c = 0 then .never else if c = 1 then .atLatch else if c = 2 then .atDeadline else .unusable

/-- W0 bits 15:8 (R66). -/
def Source.vector (x : Source) : Byte := x.w0.extractLsb' 8 8
/-- W0 bits 7:5 (R66). -/
def Source.level (x : Source) : BitVec 3 := x.w0.extractLsb' 5 3
/-- W0 bits 4:3 (R66). -/
def Source.classBits (x : Source) : BitVec 2 := x.w0.extractLsb' 3 2
/-- The stored class (R66). -/
def Source.cls (x : Source) : Class := classOf x.classBits
/-- W0 bits 2:0 (R62, R66). -/
def Source.trigger (x : Source) : Trigger := triggerOf (x.w0.extractLsb' 0 3)
/-- W1 bits 15:12 (R60, R67). -/
def Source.settle (x : Source) : Nat := (x.w1.extractLsb' 12 4).toNat
/-- W1 bits 11:9: 0 none, or the number of the reaction set (R67). -/
def Source.reactionSet (x : Source) : BitVec 3 := x.w1.extractLsb' 9 3
/-- W1 bits 8:7 (R67). -/
def Source.reactWhen (x : Source) : ReactWhen := reactWhenOf (x.w1.extractLsb' 7 2)
/-- W1 bit 6 (R67). -/
def Source.repeats (x : Source) : Bool := x.w1.getLsbD 6
/-- W1 bit 5 (R67). -/
def Source.journals (x : Source) : Bool := x.w1.getLsbD 5
/-- W1 bit 4 (R67). -/
def Source.selfMasks (x : Source) : Bool := x.w1.getLsbD 4
/-- W2 bits 15:8 (R68). -/
def Source.claimDeadline (x : Source) : Nat := (x.w2.extractLsb' 8 8).toNat
/-- W2 bits 7:0 (R68). -/
def Source.serviceDeadline (x : Source) : Nat := (x.w2.extractLsb' 0 8).toNat
/-- The armed bit: set exactly while the state is not Disarmed (R69, R79). -/
def Source.armed (x : Source) : Bool := x.state != .disarmed
/-- Repeat-waiting: set exactly while the repeat count is not 0 (R79). -/
def Source.repeatWaiting (x : Source) : Bool := x.repeatCount != 0

/-- LINK (24). -/
def linkId : SourceId := 24
/-- OVERRUN (25). -/
def overrunId : SourceId := 25
/-- STALE (26). -/
def staleId : SourceId := 26
/-- JOURNAL (27). -/
def journalId : SourceId := 27
/-- COMPOUND (28). -/
def compoundId : SourceId := 28
/-- MISMATCH (29). -/
def mismatchId : SourceId := 29
/-- HOSTRAISE (30). -/
def hostraiseId : SourceId := 30
/-- SILENCE (31). -/
def silenceId : SourceId := 31

/-- The source is external: 0 to 23 (chapter 4). -/
def isExternal (i : SourceId) : Bool := i.val < 24

/-- The source of a sense line (chapter 4). -/
def lineSource (k : LineId) : SourceId := ⟨k.val, by omega⟩

/-- The source that a 5-bit index names. -/
def sourceOf (i : BitVec 5) : SourceId := i.toFin

/-- A source index as five bits. -/
def sourceBits (i : SourceId) : BitVec 5 := ⟨i⟩

/-! ## Reading and writing a source -/

/-- The source numbered `i`. -/
def State.src (s : State) (i : SourceId) : Source := s.srcs.table.get i

/-- The source numbered `i` replaced. -/
def State.setSrc (s : State) (i : SourceId) (x : Source) : State :=
  { s with srcs := { s.srcs with table := s.srcs.table.set i.val x i.isLt } }

/-- The mask bit of a source (R74). -/
def State.masked (s : State) (i : SourceId) : Bool := s.srcs.mask.getLsbD i.val

/-! ## Policy fields -/

/-- POLICY bit 0, compound enable (R112). -/
def State.compoundEnable (s : State) : Bool := s.regs.policy.getLsbD 0
/-- POLICY bit 1, overwrite policy (R156). -/
def State.overwriteOldest (s : State) : Bool := s.regs.policy.getLsbD 1
/-- POLICY bits 4:2, threshold (R75). -/
def State.threshold (s : State) : Nat := (s.regs.policy.extractLsb' 2 3).toNat
/-- POLICY bits 11:8, readback window (R147). -/
def State.readbackWindow (s : State) : Nat := (s.regs.policy.extractLsb' 8 4).toNat
/-- SILWIN bits 7:0, the silence window (R136). -/
def State.silenceWindow (s : State) : Nat := (s.regs.silwin.extractLsb' 0 8).toNat

/-! ## Reaction sets -/

/-- What a set does with a channel (R139). -/
inductive Action where
  | pass | freeze | safe
  deriving DecidableEq, Repr

/-- The action of a channel field; 3 is never stored (R139). DESIGN CHOICE, safe: notes/assumptions/9.md. -/
def actionOf (c : BitVec 2) : Action :=
  if c = 1 then .freeze else if c = 2 then .safe else .pass

/-- The field of a channel in the two words of a set (R139). -/
def ReactionSet.field (k : ReactionSet) (c : Channel) : BitVec 2 :=
  if c.val < 8 then k.wordA.extractLsb' (2 * c.val) 2 else k.wordB.extractLsb' (2 * (c.val - 8)) 2

/-- The action that a set gives a channel (R139). -/
def ReactionSet.action (k : ReactionSet) (c : Channel) : Action := actionOf (k.field c)

/-- The set is active (R140). -/
def ReactionSet.active (k : ReactionSet) : Bool := k.binding.isSome

/-- Reaction set by its place in the table. -/
def State.set (s : State) (k : SetId) : ReactionSet := s.act.sets.get k

/-- Reaction set by its place in the table, replaced. -/
def State.putSet (s : State) (k : SetId) (x : ReactionSet) : State :=
  { s with act := { s.act with sets := s.act.sets.set k.val x k.isLt } }

/-- The place in the table of the set numbered `n`, 1 to 7. -/
def setOf (n : Nat) : SetId := Fin.ofNat 7 (n - 1)

/-! ## Codes shown in registers and receipts -/

/-- The code of a mode (R38). -/
def modeCode : Mode → BitVec 2
  | .configuring => 0
  | .running => 1
  | .lockdown => 2

/-- The code of a reset cause (R53). -/
def causeCode : ResetCause → BitVec 2
  | .powerOn => 1
  | .pin => 2
  | .reinit => 3

/-- The code of a source state (R69). -/
def stateCode : SrcState → BitVec 3
  | .disarmed => 0
  | .quiet => 1
  | .pending => 2
  | .serving => 3
  | .absorbed => 4

/-- The code of an outcome (R20). -/
def outcomeCode : FrameOutcome → BitVec 4
  | .origin => 0
  | .done => 1
  | .empty => 2
  | .refused => 3
  | .holdBroken => 4
  | .rejectedLength => 8
  | .rejectedCheck => 9
  | .rejectedForm => 10
  | .rejectedTarget => 11

/-! ## Register values -/

/-- A 16-bit window on a per-source flag, from source `base` up. -/
def sourceFlags (base : Nat) (f : SourceId → Bool) : Word :=
  wordOf fun c => f (Fin.ofNat 32 (base + c.val))

/-- W3 of a source, composed at each read (R69). -/
def State.w3 (s : State) (i : SourceId) : Word :=
  let x := s.src i
  stateCode x.state ++ x.count ++ BitVec.ofBool x.repeatWaiting ++ BitVec.ofBool x.armed
    ++ BitVec.ofBool (s.masked i) ++ BitVec.ofBool x.overrun ++ BitVec.ofBool x.expired

/-- MODE (R38, R37, R46, R53). -/
def State.modeWord (s : State) : Word :=
  0#10 ++ BitVec.ofBool s.mc.causeSeen ++ BitVec.ofBool s.regs.sealed ++ causeCode s.mc.resetCause
    ++ modeCode s.mc.mode

/-- The source index of the n-th stack entry from the top, 0 where there is none (R97). -/
def State.stackField (s : State) (n : Nat) : BitVec 5 :=
  match s.svc.stack[n]? with
  | some e => sourceBits e.source
  | none => 0

/-- The top of the stack is an unannounced COMPOUND entry (R97, R98). -/
def State.topUnannounced (s : State) : Bool :=
  match s.svc.stack with
  | e :: _ => e.source == compoundId && !e.announced
  | [] => false

/-- STACK (R97). -/
def State.stackWord (s : State) : Word :=
  0#2 ++ BitVec.ofBool s.topUnannounced ++ s.stackField 1 ++ s.stackField 0
    ++ BitVec.ofNat 3 s.svc.stack.length

/-- STACK2 (R97). -/
def State.stack2Word (s : State) : Word :=
  0#3 ++ s.stackField 3 ++ s.stackField 2 ++ 0#3

/-- One of four words. -/
def Words4.get (w : Words4) (n : Fin 4) : Word :=
  match n with
  | 0 => w.w0
  | 1 => w.w1
  | 2 => w.w2
  | 3 => w.w3

/-- ACTIVE: bit k while set k is active, for k = 1 to 7 (R140). -/
def State.activeWord (s : State) : Word :=
  wordOf fun c => 1 ≤ c.val && c.val ≤ 7 && (s.set (setOf c.val)).active

/-- The word that a Read of a register returns, its side effects apart (R24). The write-only registers are
never read (R13); CLAIM's value is the claim's (R98). -/
def readReg (s : State) : Reg → Word
  | .ident => identWord s.mc.nodeId
  | .mode => s.modeWord
  | .refusal => s.regs.refusal
  | .armcheck => s.regs.armcheck.zeroExtend 16
  | .linkfault => s.link.linkFault.zeroExtend 16
  | .linkcount => s.link.linkCount.zeroExtend 16
  | .zones => s.regs.zones
  | .policy => s.regs.policy
  | .silwin => s.regs.silwin
  | .maskLo => s.srcs.mask.extractLsb' 0 16
  | .maskHi => s.srcs.mask.extractLsb' 16 16
  | .armedLo => sourceFlags 0 fun i => (s.src i).armed
  | .armedHi => sourceFlags 16 fun i => (s.src i).armed
  | .stack => s.stackWord
  | .stack2 => s.stack2Word
  | .claimrec n => s.svc.claimrec.get n
  | .pendLo => sourceFlags 0 fun i => s.arb.waiting.any (·.source == i)
  | .pendHi => sourceFlags 16 fun i => s.arb.waiting.any (·.source == i)
  | .comprec0 => s.svc.comprec0
  | .comprec1 => s.svc.comprec1
  | .lockrec => s.mc.lockrec
  | .locktick => s.mc.locktick
  | .operate => s.act.operate
  | .safe => s.act.safe
  | .effective => s.act.effective
  | .readback => s.scan.rawReadback
  | .rbcheck => s.act.rbcheck
  | .active => s.activeWord
  | .mismatchdet => s.act.mismatchDet
  | .mismatchset => s.act.mismatchSet
  | .frozen => s.act.frozen
  | .frozenlvl => s.act.frozenLevel
  | .jwin n => s.jn.window.get n
  | .jstat => s.jn.lost ++ 0#2 ++ BitVec.ofNat 6 s.jn.unread.length
  | .jfilter => s.jn.filter
  | .timeHi => s.tc.count.extractLsb' 16 16
  | .timeLo => s.tc.snapshot.extractLsb' 0 16
  | .desc i w =>
    match w with
    | 0 => (s.src i).w0
    | 1 => (s.src i).w1
    | 2 => (s.src i).w2
    | 3 => s.w3 i
  | .react k wordB => if wordB then (s.set k).wordB else (s.set k).wordA
  | .action | .arm | .disarm | .claim | .complete | .raise | .release => 0

end Sys2Proof.Machine
end

