-- ==== Sys2Proof/Machine/Flags.lean ====
section
/-! DEFINITION. The conditions and levels that the controller derives from its state: the order of the pending
list (R87), eligibility and claimability (R89, R90), the alert condition (R91), stack severity (R113), the
effective levels (R143), the end-of-happening updates (R92) and the receipt (R19). -/

namespace Sys2Proof.Machine

/-! ## Order and claimability -/

/-- The rank of a source: of its stored class, and 3 for COMPOUND (R66, R90). -/
def State.rank (s : State) (i : SourceId) : Nat :=
  if i = compoundId then 3 else classRank (s.src i).cls

/-- The level of a source (R66). -/
def State.level (s : State) (i : SourceId) : Nat := (s.src i).level.toNat

/-- The latch-sequence position of a source, 0 where it holds none (R83). -/
def State.position (s : State) (i : SourceId) : Nat :=
  match (s.src i).latch with
  | some l => l.position
  | none => 0

/-- The entry of `i` stands before the entry of `j` in the pending list: higher rank, then higher level, then
earlier position (R87). -/
def State.standsBefore (s : State) (i j : SourceId) : Bool :=
  s.rank j < s.rank i
  || (s.rank i == s.rank j
      && (s.level j < s.level i || (s.level i == s.level j && s.position i < s.position j)))

/-- The pending list with an entry put in its place (R87). -/
def insertEntry (s : State) (e : PendEntry) : List PendEntry → List PendEntry
  | [] => [e]
  | x :: rest => if s.standsBefore e.source x.source then e :: x :: rest else x :: insertEntry s e rest

/-- A pending entry of this source is eligible (R89). -/
def State.eligible (s : State) (i : SourceId) : Bool :=
  !s.masked i && (s.threshold ≤ s.level i || (s.src i).cls == .critical)

/-- The pair (rank, level) of `i` is strictly greater than that of `j` (R90). -/
def State.pairAbove (s : State) (i j : SourceId) : Bool :=
  s.rank j < s.rank i || (s.rank i == s.rank j && s.level j < s.level i)

/-- A pending entry of this source is claimable (R90). -/
def State.claimable (s : State) (i : SourceId) : Bool :=
  s.eligible i && s.mc.mode == .running && s.svc.stack.length < Config.stackLimit
  && match s.svc.stack with
     | [] => true
     | top :: _ => s.pairAbove i top.source

/-- The claim candidate: the first claimable entry in list order (R90). -/
def State.candidate (s : State) : Option PendEntry :=
  s.arb.waiting.find? fun e => s.claimable e.source

/-- The stack holds a COMPOUND entry that has not been announced (R91). -/
def State.unannouncedCompound (s : State) : Bool :=
  s.svc.stack.any fun e => e.source == compoundId && !e.announced

/-- The alert condition (R91). -/
def State.alertCondition (s : State) : Bool :=
  match s.mc.mode with
  | .configuring => false
  | .running => s.candidate.isSome || s.unannouncedCompound
  | .lockdown => true

/-- The stack severity: the highest rank on the stack, that of Notice where it is empty (R113). -/
def State.severity (s : State) : Nat :=
  s.svc.stack.foldl (fun r e => max r (s.rank e.source)) 0

/-! ## Effective levels -/

/-- Some active set gives the channel this action (R143). -/
def State.someActive (s : State) (c : Channel) (a : Action) : Bool :=
  s.act.sets.toList.any fun k => k.active && k.action c == a

/-- The effective level of a channel: mode, then Safe, then Freeze, then the operate level (R143). -/
def State.effectiveLevel (s : State) (c : Channel) : Bool :=
  if s.mc.mode ≠ .running then s.act.safe.getLsbD c.val
  else if s.someActive c .safe then s.act.safe.getLsbD c.val
  else if s.someActive c .freeze then s.act.frozenLevel.getLsbD c.val
  else s.act.operate.getLsbD c.val

/-- The effective levels of all channels (R143). -/
def State.effectiveWord (s : State) : Word := wordOf s.effectiveLevel

/-- The recompute of the effective levels, which sets the moved mark of each channel whose level differs from
the one it drove before (R144). -/
def recomputeLevels (s : State) : State :=
  { s with act := { s.act with
      effective := s.effectiveWord
      moved := s.act.moved ||| (s.act.effective ^^^ s.effectiveWord) } }

/-- The Arbiter sets ALERT from the alert condition (R91). -/
def setAlert (s : State) : State :=
  { s with arb := { s.arb with alert := s.alertCondition } }

/-- The end-of-happening updates, in order: effective levels, then ALERT (R92). -/
def endHappening (s : State) : State := setAlert (recomputeLevels s)

/-! ## The receipt -/

/-- Receipt byte P0 (R19). -/
def State.p0 (s : State) : Byte :=
  modeCode s.mc.mode ++ BitVec.ofBool s.arb.alert ++ BitVec.ofBool (s.link.linkFault != 0)
    ++ s.link.prev.tag

/-- Receipt byte P1 (R19). -/
def State.p1 (s : State) : Byte :=
  outcomeCode s.link.prev.outcome ++ BitVec.ofNat 3 s.svc.stack.length
    ++ BitVec.ofBool (!s.jn.unread.isEmpty)

/-- The receipt that a node sends from this state (R19). -/
def State.receiptWord (s : State) : Receipt40 :=
  let body : BitVec 32 := s.p0 ++ s.p1 ++ s.link.prev.data
  body ++ crc8 (bytes4 body)

/-- The drive decision from the raw byte Q0: directed, this node's ID, and that ID not 0 (R17). -/
def State.drives (s : State) (q0 : Byte) : Bool :=
  q0.extractLsb' 6 2 == 0 && q0.extractLsb' 0 4 == s.mc.nodeId && s.mc.nodeId != 0

end Sys2Proof.Machine
end

