-- ==== Sys2Proof/Machine/Ops.lean ====
section
/-! DEFINITION. The shared operations of the serial engine: the journal (chapter 10), reactions (chapter 9),
holds (R35), entry to Lockdown (R124), the pending list and the latch order (R83, R86), first latches and
occurrences (chapters 5 and 7), and the hard reset (R50). They act on a happening in progress. -/

namespace Sys2Proof.Machine

/-- A happening in progress: the state so far, whether the mode was Running when it began (R156), and the
JOURNAL occurrences that lost records have called for and that wait for the present occurrence or action to be
complete (R80), each given by its detail word, oldest first. -/
structure Work where
  st           : State
  startedRunning : Bool
  derived      : List Word
  deriving DecidableEq, Repr

/-- A happening begins (R92). -/
def begin (s : State) : Work :=
  { st := s, startedRunning := s.mc.mode == .running, derived := [] }

/-- The happening has not been abandoned by an entry to Lockdown, and its occurrences are processed: the mode
is Running (R80, R94). -/
def Work.live (w : Work) : Bool := w.st.mc.mode == .running

/-- The state of the happening replaced by its image. -/
def Work.map (f : State → State) (w : Work) : Work := { w with st := f w.st }

/-! ## The journal -/

/-- The kinds of journal record (R152). -/
inductive RecordKind where
  | latch | claim | complete | absorb | compound | lockdown | reactApply | reactRelease | mode
  deriving DecidableEq, Repr

/-- The code of a kind (R152). -/
def kindCode : RecordKind → BitVec 4
  | .latch => 1
  | .claim => 2
  | .complete => 3
  | .absorb => 4
  | .compound => 5
  | .lockdown => 6
  | .reactApply => 7
  | .reactRelease => 8
  | .mode => 9

/-- The forced kinds (R153). -/
def RecordKind.forced : RecordKind → Bool
  | .absorb | .compound | .lockdown => true
  | _ => false

/-- The source-filtered kinds (R153). -/
def RecordKind.sourceFiltered : RecordKind → Bool
  | .latch | .claim | .complete => true
  | _ => false

/-- The journal writes a record of this kind for this source (R153). -/
def State.recordAdmitted (s : State) (k : RecordKind) (source : Option SourceId) : Bool :=
  k.forced
  || (s.jn.filter.getLsbD (kindCode k).toNat
      && (!k.sourceFiltered || source.any fun i => (s.src i).journals))

/-- The words of a record written now (R151). -/
def State.record (s : State) (k : RecordKind) (source : Option SourceId) (detail : Word) : Words4 :=
  let head : BitVec 7 :=
    match source with
    | some i => sourceBits i ++ (s.src i).classBits
    | none => 0
  { w0 := kindCode k ++ head ++ modeCode s.mc.mode ++ 0#3
    w1 := detail
    w2 := s.tc.count.extractLsb' 16 16
    w3 := s.tc.count.extractLsb' 0 16 }

/-- One record is lost: the lost count rises, and a JOURNAL occurrence is called for where it can arise
(R156). -/
def loseRecord (w : Work) : Work :=
  let lost := satInc w.st.jn.lost
  { w with
    st := { w.st with jn := { w.st.jn with lost := lost } }
    derived :=
      if (w.st.src journalId).armed && w.startedRunning && w.live then
        w.derived ++ [lost.zeroExtend 16]
      else w.derived }

/-- The unread records replaced. -/
def setUnread (l : List Words4) (s : State) : State :=
  { s with jn := { s.jn with unread := l } }

/-- An admitted record joins the journal, or meets the overflow policy (R155, R156). -/
def joinJournal (forced : Bool) (r : Words4) (w : Work) : Work :=
  let u := w.st.jn.unread
  if u.length < Config.journalLimit then w.map (setUnread (u ++ [r]))
  else if w.st.overwriteOldest then loseRecord (w.map (setUnread (u.drop 1 ++ [r])))
  else if forced then loseRecord (w.map (setUnread (u.dropLast ++ [r])))
  else loseRecord w

/-- An event calls for a record (R152, R153). -/
def writeRecord (k : RecordKind) (source : Option SourceId) (detail : Word) (w : Work) : Work :=
  if w.st.recordAdmitted k source then joinJournal k.forced (w.st.record k source detail) w else w

/-- A change of device mode calls for its Mode record, old mode and new mode in the detail word (R45). -/
def writeModeRecord (old : Mode) (w : Work) : Work :=
  writeRecord .mode none (0#6 ++ modeCode old ++ 0#6 ++ modeCode w.st.mc.mode) w

/-! ## Holds -/

/-- Hardware gives the register at `index` a different value: a hold on it is broken (R35). -/
def markHold (index : Byte) (s : State) : State :=
  match s.link.hold with
  | some h => if h.index = index then { s with link := { s.link with hold := some { h with changed := true } } } else s
  | none => s

/-- The index of the mask register that shows a source's bit (R74). -/
def maskIndex (i : SourceId) : Byte := if i.val < 16 then 0x0A else 0x0B

/-- Self-mask: the source's mask bit is set, and a hold on its register is broken where the bit was 0 (R74). -/
def selfMask (i : SourceId) (s : State) : State :=
  if s.masked i then s
  else markHold (maskIndex i) { s with srcs := { s.srcs with mask := setBit s.srcs.mask i.val } }

/-! ## Reactions -/

/-- The channels to which a set gives Freeze (R139). -/
def ReactionSet.freezes (k : ReactionSet) : Word := wordOf fun c => k.action c == .freeze

/-- The binding of a set with one more source, each at most once (R141, steps 1 and 2). -/
def ReactionSet.bind (k : ReactionSet) (i : SourceId) : ReactionSet :=
  let b := k.binding.getD []
  { k with binding := some (if b.contains i then b else b ++ [i]) }

/-- Freeze capture: each channel the set freezes that is not yet frozen takes its effective level as last
computed (R141, step 3). -/
def captureFreezes (k : SetId) (s : State) : State :=
  let fresh := (s.set k).freezes &&& ~~~s.act.frozen
  { s with act := { s.act with
      frozen := s.act.frozen ||| fresh
      frozenLevel := (s.act.frozenLevel &&& ~~~fresh) ||| (s.act.effective &&& fresh) } }

/-- Source `i` applies the reaction set that its own W1 names, if it names one (R141, R142). -/
def applyReaction (i : SourceId) (w : Work) : Work :=
  let n := (w.st.src i).reactionSet
  if n = 0 then w
  else
    let k := setOf n.toNat
    writeRecord .reactApply (some i) (n.zeroExtend 16)
      (w.map fun s => captureFreezes k (s.putSet k ((s.set k).bind i)))

/-- The channels to which some active set gives Freeze (R140, R145). -/
def State.stillFrozen (s : State) : Word := wordOf fun c => s.someActive c .freeze

/-- An active set leaves the collection, and the channels that no remaining active set freezes lose their
captures (R145, steps 1 and 2). -/
def dropSet (k : SetId) (s : State) : State :=
  let s1 := s.putSet k { s.set k with binding := none }
  let keep := ~~~(s.set k).freezes ||| s1.stillFrozen
  { s1 with act := { s1.act with
      frozen := s1.act.frozen &&& keep
      frozenLevel := s1.act.frozenLevel &&& keep } }

/-- Every active set and every capture is removed, without records (R47, R56). -/
def clearReactions (s : State) : State :=
  { s with act := { s.act with
      sets := s.act.sets.map fun k => { k with binding := none }
      frozen := 0, frozenLevel := 0 } }

/-- The mismatch set is emptied and every readback counter set to 0 (R148). -/
def clearMismatch (s : State) : State :=
  { s with act := { s.act with mismatchSet := 0, counters := Vector.replicate 16 0 } }

/-! ## Lockdown -/

/-- The device mode replaced. -/
def setMode (m : Mode) (s : State) : State := { s with mc := { s.mc with mode := m } }

/-- Entry to Lockdown, steps 1 to 4 (R124). The source is none for cause 6; the second source is then 0. What
abandons the rest of the happening is that the mode is no longer Running. -/
def enterLockdown (cause : BitVec 4) (source : Option SourceId) (second : BitVec 5) (w : Work) : Work :=
  let old := w.st.mc.mode
  let field : BitVec 5 :=
    match source with
    | some i => sourceBits i
    | none => 0
  let w1 := w.map fun s =>
    { s with mc := { s.mc with
        mode := .lockdown
        lockrec := cause ++ 0#2 ++ field ++ second
        locktick := s.tc.count.extractLsb' 0 16
        causeSeen := false } }
  writeModeRecord old (writeRecord .lockdown source (cause.zeroExtend 16) w1)

/-! ## The latch order, the pending list and the stack -/

/-- A source takes the position after every position then held; the current tick count is its latch tick
(R83, R103). -/
def takePosition (i : SourceId) (s : State) : State :=
  let s1 := s.setSrc i { s.src i with latch := some { position := s.arb.nextPosition, tick := s.tc.count } }
  { s1 with arb := { s1.arb with nextPosition := s.arb.nextPosition + 1 } }

/-- The claim deadline that an entry is given when it joins the list (R127). -/
def Source.freshClaimDeadline (x : Source) : Deadline :=
  if x.claimDeadline = 0 then .none else .runningDown (x.claimDeadline * Config.claimUnit)

/-- The service deadline that an entry is given when it is pushed (R131). -/
def Source.freshServiceDeadline (x : Source) : Deadline :=
  if x.serviceDeadline = 0 then .none else .runningDown (x.serviceDeadline * Config.serviceUnit)

/-- The source becomes Pending, its claim-deadline-expired mark 0, and its entry joins the list in its place
with its claim deadline loaded (R86, R87, R127). -/
def joinPending (i : SourceId) (s : State) : State :=
  let s1 := s.setSrc i { s.src i with state := .pending, expired := false }
  { s1 with arb := { s1.arb with
      waiting := insertEntry s1 { source := i, deadline := (s.src i).freshClaimDeadline } s1.arb.waiting } }

/-- An entry for the source is pushed onto the stack with its service deadline loaded (R99, R117, R131). -/
def pushEntry (i : SourceId) (announced : Bool) (s : State) : State :=
  { s with svc := { s.svc with
      stack := { source := i, announced := announced, deadline := (s.src i).freshServiceDeadline } :: s.svc.stack } }

/-! ## First latches -/

/-- The outcomes of a first latch (R81, R114). -/
inductive LatchOutcome where
  | normal
  | compound
  | lockdown (cause : BitVec 4)
  deriving DecidableEq, Repr

/-- The escalation matrix (R114): stack severity (0 for an empty stack), class of the new source, enable. A class 3
source is never weighed. DESIGN CHOICE, safe: notes/assumptions/9.md. -/
def escalate (severity : Nat) (c : Class) (enable : Bool) : LatchOutcome :=
  match c, severity with
  | .fault, 0 => .normal
  | .fault, 1 => if enable then .compound else .normal
  | .fault, 2 => if enable then .compound else .normal
  | .fault, _ => .lockdown 2
  | .critical, 0 => .normal
  | .critical, 1 => .normal
  | .critical, 2 => .lockdown 1
  | .critical, _ => .lockdown 3
  | .notice, _ => .normal
  | .compound, _ => .normal

/-- A first latch with the normal outcome, R82 steps 1 to 5. The claim deadline is loaded with the entry; no
step between reads it. DEDUCED, safe: notes/assumptions/13.md. -/
def normalLatch (i : SourceId) (detail : Word) (w : Work) : Work :=
  let w1 := if (w.st.src i).reactWhen = .atLatch then applyReaction i w else w
  let w2 := w1.map fun s =>
    joinPending i (takePosition i (s.setSrc i { s.src i with count := 1, detail := detail }))
  let w3 := if (w2.st.src i).selfMasks then w2.map (selfMask i) else w2
  writeRecord .latch (some i) detail w3

/-- Absorption, R115: the source's own reaction, then the Absorbed state and the Absorb record, whose detail
word is the source of the stack top. An overrun mark left from an earlier service stays as it was (R133).
DESIGN CHOICE, unsafe: notes/assumptions/15.md. -/
def absorb (i : SourceId) (detail : Word) (partner : SourceId) (w : Work) : Work :=
  let w1 := if (w.st.src i).reactWhen = .atLatch then applyReaction i w else w
  let w2 := w1.map fun s =>
    takePosition i (s.setSrc i { s.src i with state := .absorbed, count := 1, detail := detail })
  writeRecord .absorb (some i) ((sourceBits partner).zeroExtend 16) w2

/-- The pair of a compound condition: first source in bits 15:8, second in bits 7:0 (R117, R118). -/
def compoundPair (first second : SourceId) : Word :=
  (sourceBits first).zeroExtend 8 ++ (sourceBits second).zeroExtend 8

/-- The push of a COMPOUND entry, R117 steps 1 to 6. -/
def pushCompound (first second : SourceId) (w : Work) : Work :=
  let pair := compoundPair first second
  let w1 := w.map fun s =>
    let s1 := pushEntry compoundId false s
    let s2 := s1.setSrc compoundId { s1.src compoundId with state := .serving, detail := pair }
    { s2 with svc := { s2.svc with comprec0 := pair, comprec1 := s2.tc.count.extractLsb' 0 16 } }
  applyReaction compoundId (writeRecord .compound (some compoundId) pair w1)

/-- A first latch with the compound outcome (R115 to R117). It arises only over a stack that is not empty; the
stack severity of an empty stack is Notice. -/
def compoundLatch (i : SourceId) (detail : Word) (w : Work) : Work :=
  match w.st.svc.stack with
  | [] => w
  | top :: _ =>
    let w1 := absorb i detail top.source w
    if w1.st.svc.stack.length < Config.stackLimit then pushCompound top.source i w1
    else enterLockdown 4 (some i) (sourceBits top.source) w1

/-- The second source of a lockdown by a first latch: the source of the stack top for cause 1, and COMPOUND for
causes 2 and 3 (R123). -/
def State.secondSource (s : State) (cause : BitVec 4) : BitVec 5 :=
  if cause = 1 then s.stackField 0 else sourceBits compoundId

/-- A first latch: the escalation decision and its outcome (R81, R112). -/
def firstLatch (i : SourceId) (detail : Word) (w : Work) : Work :=
  match escalate w.st.severity (w.st.src i).cls w.st.compoundEnable with
  | .normal => normalLatch i detail w
  | .compound => compoundLatch i detail w
  | .lockdown cause => enterLockdown cause (some i) (w.st.secondSource cause) w

/-! ## Occurrences -/

/-- An occurrence is counted on a Pending or Absorbed source (R84). -/
def countOccurrence (i : SourceId) (detail : Word) (s : State) : State :=
  s.setSrc i { s.src i with count := satInc (s.src i).count, detail := detail }

/-- An occurrence is kept back on a Serving source that asks for repeats (R85). -/
def countRepeat (i : SourceId) (detail : Word) (s : State) : State :=
  s.setSrc i { s.src i with repeatCount := satInc (s.src i).repeatCount, detail := detail }

/-- One occurrence of an armed source in Running; in any other mode, or for a Disarmed source, it is ignored
(R76, R80, R81, R84, R85). -/
def occur (i : SourceId) (detail : Word) (w : Work) : Work :=
  if w.live then
    match (w.st.src i).state with
    | .disarmed => w
    | .quiet => firstLatch i detail w
    | .pending => w.map (countOccurrence i detail)
    | .absorbed => w.map (countOccurrence i detail)
    | .serving => if (w.st.src i).repeats then w.map (countRepeat i detail) else w
  else w

/-- A JOURNAL occurrence: losses that arise in its processing call for no further one (R156). DEDUCED, unsafe:
notes/assumptions/14.md. -/
def occurJournal (detail : Word) (w : Work) : Work :=
  { occur journalId detail w with derived := w.derived }

/-- The derived occurrences are processed, in the order in which they arose (R80); after an entry to Lockdown
none is (R94). -/
def drain (w : Work) : Work :=
  w.derived.foldl (fun v d => occurJournal d v) { w with derived := [] }

/-- An occurrence taken to its end, with the occurrences derived from it (R80). -/
def occurAll (i : SourceId) (detail : Word) (w : Work) : Work := drain (occur i detail w)

/-- The happening ends: derived occurrences still waiting, then the end-of-happening updates (R92). -/
def finish (w : Work) : State := endHappening (drain w).st

/-! ## The watchdog -/

/-- A load of the host-silence watchdog (R136). -/
def loadWatchdog (s : State) : State :=
  { s with dl := { s.dl with
      watchdog := if s.silenceWindow = 0 then none else some (s.silenceWindow * Config.silenceUnit) } }

/-- The watchdog becomes Stopped (R136). -/
def stopWatchdog (s : State) : State := { s with dl := { s.dl with watchdog := none } }

/-! ## The hard resets -/

/-- The controller while a hard reset is asserted: every piece of state at its hard-reset value (R50, R55 to
R57). The queue of commands and the level of the LSEL pin are outside the controller and stay as they are.
`powerOn` says whether power-on reset was asserted since the last completed reset interval, which decides the
reset cause (R53). DEDUCED, safe: notes/assumptions/7.md. -/
def hardReset (powerOn : Bool) (s : State) : State :=
  { State.reset with
    pending := s.pending
    link := { State.reset.link with lselHigh := s.link.lselHigh }
    rst := { State.reset.rst with powerOnSeen := powerOn }
    mc := { State.reset.mc with resetCause := if powerOn then .powerOn else .pin } }

end Sys2Proof.Machine
end

