-- ==== Sys2Proof/Machine/Service.lean ====
section
/-! DEFINITION. Claim and completion (chapter 6). -/

namespace Sys2Proof.Machine

/-- The claim word of a source: vector, 0, class, index (R102). COMPOUND's class is 3. -/
def State.claimWord (s : State) (i : SourceId) : Word :=
  (s.src i).vector ++ 0#1 ++ (s.src i).classBits ++ sourceBits i

/-- The low 16 bits of a source's latch tick, 0 where it holds no position (R103). -/
def Source.latchLow (x : Source) : Word :=
  match x.latch with
  | some l => l.tick.extractLsb' 0 16
  | none => 0

/-- The claimed record of a claimed candidate (R103). -/
def State.claimRecordOf (s : State) (i : SourceId) : Words4 :=
  { w0 := s.claimWord i
    w1 := BitVec.ofBool (s.src i).expired ++ 0#4 ++ (s.src i).level ++ (s.src i).count
    w2 := (s.src i).detail
    w3 := (s.src i).latchLow }

/-- The claimed record of an announced compound entry (R103); the tick at which the entry was pushed is the one
in COMPREC1 (R118). -/
def State.compoundRecord (s : State) : Words4 :=
  { w0 := s.claimWord compoundId
    w1 := 0#5 ++ (s.src compoundId).level ++ 1#8
    w2 := (s.src compoundId).detail
    w3 := s.svc.comprec1 }

/-- The top entry of the stack replaced by its image. -/
def mapTop (f : StackEntry → StackEntry) : List StackEntry → List StackEntry
  | [] => []
  | e :: rest => f e :: rest

/-- The claim of the candidate, R99 steps 1 to 6. -/
def claimCandidate (i : SourceId) (w : Work) : Work :=
  let count := (w.st.src i).count
  let w1 := w.map fun s =>
    let s1 := { s with
      arb := { s.arb with waiting := s.arb.waiting.filter (·.source != i) }
      svc := { s.svc with claimrec := s.claimRecordOf i } }
    let s2 := pushEntry i true s1
    s2.setSrc i { s2.src i with
      state := .serving, count := 0, repeatCount := 0, latch := none, overrun := false, expired := false }
  writeRecord .claim (some i) (count.zeroExtend 16) w1

/-- The announcement of an unannounced COMPOUND top, R100 steps 1 to 3. -/
def announceCompound (w : Work) : Work :=
  let w1 := w.map fun s =>
    { s with svc := { s.svc with
        stack := mapTop (fun e => { e with announced := true }) s.svc.stack
        claimrec := s.compoundRecord } }
  writeRecord .claim (some compoundId) 1 w1

/-- The release of the source that the completed compound condition absorbed: its second source, named in
COMPREC0 (R121). It keeps its count, detail word, position and latch tick. -/
def releaseAbsorbed (s : State) : State :=
  let i := sourceOf (s.svc.comprec0.extractLsb' 0 5)
  if (s.src i).state = .absorbed then joinPending i s else s

/-- The re-latch of a source whose repeat-waiting mark is set (R107). -/
def relatch (i : SourceId) (s : State) : State :=
  joinPending i (takePosition i
    (s.setSrc i { s.src i with count := (s.src i).repeatCount, repeatCount := 0 }))

/-- What becomes of the completed source, R106 step 3: COMPOUND returns to Quiet and releases the absorbed
source (R109); another source returns to Quiet and is re-latched where repeat-waiting is set (R107, R108). -/
def settleCompleted (i : SourceId) (s : State) : State :=
  if i = compoundId then
    releaseAbsorbed (s.setSrc i { s.src i with state := .quiet, count := 0, repeatCount := 0 })
  else if (s.src i).repeatWaiting then relatch i (s.setSrc i { s.src i with state := .quiet })
  else s.setSrc i { s.src i with state := .quiet }

/-- The top of the stack is popped (R106, step 1). -/
def popStack (s : State) : State :=
  { s with svc := { s.svc with stack := s.svc.stack.drop 1 } }

/-- A Complete that has passed its checks: the top, whose source is `i`, is completed (R106). -/
def completeTop (i : SourceId) (w : Work) : Work :=
  let detail : Word := (w.st.src i).repeatCount.zeroExtend 16
  (writeRecord .complete (some i) detail (w.map popStack)).map (settleCompleted i)

end Sys2Proof.Machine
end

