-- ==== Sys2Proof/Machine/Execute.lean ====
section
/-! DEFINITION. Register execution: what an admitted frame does (chapter 2), with the refusal checks (R28 to
R31), the register effects, and the actions (R36). -/

namespace Sys2Proof.Machine

/-- What register execution reports to the Link Interface (R22). -/
structure Reply where
  outcome : FrameOutcome
  data    : Word
  deriving DecidableEq, Repr

/-- The refusal reasons (R32); an invalid descriptor carries the number of the first failing check (R33). -/
inductive Reason where
  | mode | sealed | field | armed
  | invalidDescriptor (check : BitVec 4)
  | unknownAction | notTop | stackEmpty | notAnnounced | stillBound | causeUnseen | engineBusy
  | fixedField | sourceBusy | notArmable | disarmed
  deriving DecidableEq, Repr

/-- The reason codes (R32). -/
def reasonCode : Reason → Byte
  | .mode => 1
  | .sealed => 2
  | .field => 3
  | .armed => 4
  | .invalidDescriptor _ => 5
  | .unknownAction => 6
  | .notTop => 7
  | .stackEmpty => 8
  | .notAnnounced => 9
  | .stillBound => 10
  | .causeUnseen => 11
  | .engineBusy => 12
  | .fixedField => 13
  | .sourceBusy => 14
  | .notArmable => 15
  | .disarmed => 16

/-! ## The Mode and Sealed checks -/

/-- The Mode check refuses a write of this register with this data word (R28). -/
def modeRefuses (m : Mode) (r : Reg) (data : Word) : Bool :=
  match r with
  | .action =>
    if data = 1 then m != .configuring
    else if data = 2 then m != .running
    else if data = 3 then m != .lockdown
    else if data = 4 then m == .lockdown
    else if data = 6 then m == .running
    else false
  | .linkfault => false
  | .linkcount => false
  | .mismatchdet => false
  | .raise => m != .running
  | .desc i _ => if i = compoundId ∨ i = overrunId then m != .configuring else m == .lockdown
  | _ => m == .lockdown

/-- The write is seal-protected (R29). -/
def sealProtected : Reg → Bool
  | .desc _ _ => true
  | .react _ _ => true
  | .zones | .policy | .safe | .silwin | .rbcheck | .disarm => true
  | _ => false

/-! ## Arm validation -/

/-- The first failing Arm validation check of a descriptor, 1 to 10 (R71). -/
def armFault (i : SourceId) (x : Source) : Option (BitVec 4) :=
  if isExternal i && !(1 ≤ x.vector.toNat && x.vector.toNat ≤ 0xF7) then some 1
  else if i != compoundId && x.cls == .compound then some 2
  else if x.trigger == .unusable then some 3
  else if x.reactWhen == .unusable then some 4
  else if (x.reactWhen == .never) != (x.reactionSet == 0) then some 5
  else if x.cls == .notice && x.reactWhen != .never then some 6
  else if x.cls == .critical && (x.reactWhen == .atDeadline || x.selfMasks) then some 7
  else if x.reactWhen == .atDeadline && x.claimDeadline == 0 then some 8
  else if isExternal i && (x.trigger == .levelHigh || x.trigger == .levelLow) && x.repeats then some 9
  else if i == staleId && x.claimDeadline != 0 then some 10
  else none

/-! ## Descriptor writes -/

/-- The fixed class of an internal source; none for HOSTRAISE, whose class may be written (R31, R77). -/
def fixedClass (i : SourceId) : Option (BitVec 2) :=
  if i = hostraiseId then none
  else if i = linkId ∨ i = staleId ∨ i = journalId then some 0
  else if i = overrunId ∨ i = mismatchId then some 1
  else if i = silenceId then some 2
  else some 3

/-- A W0 that keeps the fields the hardware fixes for an internal source: vector, trigger and class (R31). -/
def keepsFixed (i : SourceId) (data : Word) : Bool :=
  data.extractLsb' 8 8 == BitVec.ofNat 8 (0xF8 + (i.val - 24))
  && data.extractLsb' 0 3 == 0
  && (fixedClass i).all fun c => data.extractLsb' 3 2 == c

/-- The W1 that a write stores: as written, but for COMPOUND, whose react-when follows its reaction set, AtLatch
where the set is 1 to 7 and Never where it is 0 (R67, R70). -/
def storedW1 (i : SourceId) (data : Word) : Word :=
  if i = compoundId then
    data.extractLsb' 9 7 ++ (if data.extractLsb' 9 3 = 0 then 0#2 else 1#2) ++ data.extractLsb' 0 7
  else data

/-- A source with one descriptor word written (R70). -/
def writeDescriptor (i : SourceId) (w : Fin 4) (data : Word) (x : Source) : Source :=
  match w with
  | 0 => { x with w0 := data }
  | 1 => { x with w1 := storedW1 i data }
  | 2 => { x with w2 := data }
  | 3 => x

/-- The checks of a descriptor write, after Mode and Sealed, in order (R31). -/
def descriptorRefusal (s : State) (i : SourceId) (w : Fin 4) (data : Word) : Option Reason :=
  let special := i == compoundId || i == overrunId
  if (s.src i).armed && !special then some .armed
  else if !isExternal i && w == 0 && !keepsFixed i data then some .fixedField
  else if w == 1 && data.extractLsb' 0 4 != 0 then some .field
  else if special then
    match armFault i (writeDescriptor i w data (s.src i)) with
    | some n => some (.invalidDescriptor n)
    | none => none
  else none

/-! ## The register-specific checks -/

/-- The bits that JFILTER may hold: 1, 2, 3, 7, 8 and 9 (R30, R153). -/
def filterBits : Word := 0x038E

/-- Some channel field of a reaction-set word is 3 (R30, R139). -/
def hasIllegalField (data : Word) : Bool :=
  (List.range 8).any fun c => data.extractLsb' (2 * c) 2 == 3

/-- The source's state is Pending, Serving or Absorbed (R73, R145). -/
def State.busy (s : State) (i : SourceId) : Bool :=
  (s.src i).state == .pending || (s.src i).state == .serving || (s.src i).state == .absorbed

/-- Some source in the binding of a set holds it against Release (R146). -/
def State.stillBound (s : State) (k : SetId) : Bool :=
  match (s.set k).binding with
  | some b => b.any s.busy
  | none => false

/-- The source that bits 4:0 of a data word name. -/
def namedSource (data : Word) : SourceId := sourceOf (data.extractLsb' 0 5)

/-- Bits 15:5 of the data word are not all 0 (R30, R162). -/
def sourceFieldFault (data : Word) : Bool := data.extractLsb' 5 11 != 0

/-- The register-specific checks, in the order R30 lists them; the first that fails gives the reason. -/
def specificRefusal (s : State) (r : Reg) (data : Word) : Option Reason :=
  match r with
  | .action =>
    if !(1 ≤ data.toNat && data.toNat ≤ 8) then some .unknownAction
    else if data = 2 ∧ ¬(s.svc.stack.isEmpty ∧ s.arb.waiting.isEmpty) then some .engineBusy
    else if (data = 3 ∨ data = 6) ∧ s.mc.mode = .lockdown ∧ ¬s.mc.causeSeen then some .causeUnseen
    else none
  | .zones => if data.getLsbD 0 then some .field else none
  | .policy =>
    if data.extractLsb' 5 3 != 0 || data.extractLsb' 12 4 != 0 then some .field
    else if data.extractLsb' 8 4 == 0 then some .field
    else none
  | .silwin => if data.extractLsb' 8 8 != 0 then some .field else none
  | .linkfault => if data.extractLsb' 4 12 != 0 then some .field else none
  | .jfilter => if data &&& ~~~filterBits != 0 then some .field else none
  | .arm =>
    if sourceFieldFault data then some .field
    else if (s.src (namedSource data)).armed then none
    else
      match armFault (namedSource data) (s.src (namedSource data)) with
      | some n => some (.invalidDescriptor n)
      | none => none
  | .disarm =>
    if sourceFieldFault data then some .field
    else if namedSource data = compoundId ∨ namedSource data = overrunId then some .notArmable
    else if s.busy (namedSource data) then some .sourceBusy
    else none
  | .complete =>
    if sourceFieldFault data then some .field
    else
      match s.svc.stack with
      | [] => some .stackEmpty
      | top :: _ =>
        if top.source ≠ namedSource data then some .notTop
        else if top.source = compoundId ∧ top.announced = false then some .notAnnounced
        else none
  | .raise => if (s.src hostraiseId).armed then none else some .disarmed
  | .release =>
    if !(1 ≤ data.toNat && data.toNat ≤ 7) then some .field
    else if s.stillBound (setOf data.toNat) then some .stillBound
    else none
  | .react k _ =>
    if hasIllegalField data then some .field
    else if (s.set k).active then some .stillBound
    else none
  | .desc i w => descriptorRefusal s i w data
  | _ => none

/-- The three tiers of checks, in order: Mode, Sealed, register-specific (R27). -/
def writeRefusal (s : State) (r : Reg) (data : Word) : Option Reason :=
  if modeRefuses s.mc.mode r data then some .mode
  else if s.regs.sealed && sealProtected r then some .sealed
  else specificRefusal s r data

/-- A refusal: REFUSAL is overwritten, ARMCHECK only for an invalid descriptor, and the new REFUSAL word is the
data word (R32, R33). -/
def refuse (reason : Reason) (index : Byte) (w : Work) : Work × Reply :=
  let word : Word := reasonCode reason ++ index
  (w.map fun s =>
    { s with regs := { s.regs with
        refusal := word
        armcheck :=
          match reason with
          | .invalidDescriptor n => n
          | _ => s.regs.armcheck } },
   { outcome := .refused, data := word })

/-! ## Arming and disarming -/

/-- A source with its counts, marks and detail word at 0 and no place in the latch order (R72, R73). -/
def Source.cleared (x : Source) : Source :=
  { x with
    count := 0, repeatCount := 0, detail := 0, latch := none, overrun := false, expired := false }

/-- An accepted Arm: a Disarmed source becomes Quiet; an armed source is left as it is (R72). -/
def armSource (i : SourceId) (s : State) : State :=
  if (s.src i).armed then s else s.setSrc i { (s.src i).cleared with state := .quiet }

/-- An accepted Disarm: a Quiet source becomes Disarmed; a Disarmed source is left as it is (R73). -/
def disarmSource (i : SourceId) (s : State) : State :=
  if (s.src i).armed then s.setSrc i { (s.src i).cleared with state := .disarmed } else s

/-! ## The actions -/

/-- Start, R42 steps 1 to 4. -/
def doStart (w : Work) : Work :=
  writeModeRecord .configuring (w.map fun s => loadWatchdog (clearMismatch (setMode .running s)))

/-- Stop, R43 steps 1 to 3. -/
def doStop (w : Work) : Work :=
  writeModeRecord .running (w.map fun s => stopWatchdog (setMode .configuring s))

/-- Every armed source Quiet, and every source's counts, marks and detail word 0 (R47, step 2). -/
def quietSources (s : State) : State :=
  { s with srcs := { s.srcs with
      table := s.srcs.table.map fun x =>
        { x.cleared with state := if x.state = .disarmed then .disarmed else .quiet } } }

/-- The pending list, the stack, the compound record and the watchdog emptied (R47, R56). -/
def clearEvents (s : State) : State :=
  { s with
    arb := { s.arb with waiting := [], nextPosition := 0 }
    svc := { s.svc with stack := [], comprec0 := 0, comprec1 := 0 }
    dl := { watchdog := none } }

/-- Recover, R47 steps 1 to 6. -/
def doRecover (w : Work) : Work :=
  writeModeRecord .lockdown (w.map fun s =>
    setMode .configuring (clearMismatch (clearReactions (quietSources (clearEvents s)))))

/-- Every source but COMPOUND and OVERRUN Disarmed, those two Quiet, every count, mark and detail word 0, every
mask bit 0 (R48, R55, R56). -/
def disarmSources (s : State) : State :=
  { s with srcs :=
      { table := Vector.ofFn fun i =>
          { (s.src i).cleared with
            state := if i = compoundId ∨ i = overrunId then .quiet else .disarmed }
        mask := 0 } }

/-- The records that Reinit clears and Recover keeps: claimed record, lockdown record, cause-seen, journal with
its lost count and window; and the reset cause (R48, R55 to R57). -/
def clearRecords (s : State) : State :=
  { s with
    svc := { s.svc with claimrec := .zero }
    mc := { s.mc with resetCause := .reinit, lockrec := 0, locktick := 0, causeSeen := false }
    jn := { s.jn with unread := [], window := .zero, lost := 0 } }

/-- Reinit, R48: the state is reset, the mode becomes Configuring, and the Mode record is written into the
cleared journal. -/
def doReinit (w : Work) : Work :=
  let old := w.st.mc.mode
  writeModeRecord old (w.map fun s =>
    setMode .configuring
      (clearRecords (clearMismatch (clearReactions (disarmSources (clearEvents s))))))

/-- Seal (R37). -/
def doSeal (w : Work) : Work :=
  w.map fun s => { s with regs := { s.regs with sealed := true } }

/-- ForceLockdown: cause 6 in Configuring or Running, no change in Lockdown (R44). -/
def doForceLockdown (w : Work) : Work :=
  if w.st.mc.mode = .lockdown then w else enterLockdown 6 none 0 w

/-- JournalTake: the oldest unread record moves into the take window, or the window becomes zeros (R158). -/
def takeRecord (s : State) : State :=
  match s.jn.unread with
  | [] => { s with jn := { s.jn with window := .zero } }
  | r :: rest => { s with jn := { s.jn with window := r, unread := rest } }

/-- JournalTake with its outcome (R158). -/
def doJournalTake (w : Work) : Work × Reply :=
  (w.map takeRecord,
   { outcome := if w.st.jn.unread.isEmpty then .empty else .done, data := 0 })

/-- JournalClear: the unread records and the lost count go; the take window stays (R159). -/
def doJournalClear (w : Work) : Work :=
  w.map fun s => { s with jn := { s.jn with unread := [], lost := 0 } }

/-- The outcome Done with data word 0, of a write-only command (R27). -/
def doneZero (w : Work) : Work × Reply := (w, { outcome := .done, data := 0 })

/-- The action that a code names (R36). Other codes have been refused as Unknown action. -/
def doAction (code : Word) (w : Work) : Work × Reply :=
  if code = 1 then doneZero (doStart w)
  else if code = 2 then doneZero (doStop w)
  else if code = 3 then doneZero (doRecover w)
  else if code = 4 then doneZero (doSeal w)
  else if code = 5 then doneZero (doForceLockdown w)
  else if code = 6 then doneZero (doReinit w)
  else if code = 7 then doJournalTake w
  else if code = 8 then doneZero (doJournalClear w)
  else doneZero w

/-! ## Release -/

/-- An accepted Release: an active set is dropped and a ReactRelease record written; a set that is not active
is left as it is (R145). -/
def doRelease (number : Nat) (w : Work) : Work :=
  let k := setOf number
  if (w.st.set k).active then
    writeRecord .reactRelease none (BitVec.ofNat 16 number) (w.map (dropSet k))
  else w

/-! ## Writes -/

/-- The mask with its lower or upper sixteen bits replaced (R74). -/
def putMask (upper : Bool) (data : Word) (m : BitVec 32) : BitVec 32 :=
  if upper then data ++ m.extractLsb' 0 16 else m.extractLsb' 16 16 ++ data

/-- The effect of an accepted write on a register that keeps a value (R27, stage 5). The registers that no write
reaches are left as they are (R13). -/
def putReg (r : Reg) (data : Word) (s : State) : State :=
  match r with
  | .zones => { s with regs := { s.regs with zones := data } }
  | .policy => { s with regs := { s.regs with policy := data } }
  | .silwin => { s with regs := { s.regs with silwin := data } }
  | .maskLo => { s with srcs := { s.srcs with mask := putMask false data s.srcs.mask } }
  | .maskHi => { s with srcs := { s.srcs with mask := putMask true data s.srcs.mask } }
  | .operate => { s with act := { s.act with operate := data } }
  | .safe => { s with act := { s.act with safe := data } }
  | .rbcheck => { s with act := { s.act with rbcheck := data } }
  | .jfilter => { s with jn := { s.jn with filter := data } }
  | .linkfault => { s with link := { s.link with linkFault := s.link.linkFault &&& ~~~data.extractLsb' 0 4 } }
  | .linkcount => { s with link := { s.link with linkCount := 0 } }
  | .mismatchdet => { s with act := { s.act with mismatchDet := s.act.mismatchDet &&& ~~~data } }
  | .desc i w => s.setSrc i (writeDescriptor i w data (s.src i))
  | .react k wordB =>
    s.putSet k (if wordB then { s.set k with wordB := data } else { s.set k with wordA := data })
  | _ => s

/-- The effect of a write that has passed its checks, and what it reports (R27, stage 5). The occurrence that a
RAISE causes is processed after register execution (R92). -/
def performWrite (r : Reg) (data : Word) (w : Work) : Work × Reply :=
  match r with
  | .action => doAction data w
  | .arm => doneZero (w.map (armSource (namedSource data)))
  | .disarm => doneZero (w.map (disarmSource (namedSource data)))
  | .complete => doneZero (completeTop (namedSource data) w)
  | .raise => doneZero w
  | .release => doneZero (doRelease data.toNat w)
  | r =>
    let w1 := w.map (putReg r data)
    (w1, { outcome := .done, data := readReg w1.st r })

/-- An admitted Write after hold resolution (R27, stages 2 to 5). -/
def executeWrite (index : Byte) (r : Reg) (data : Word) (w : Work) : Work × Reply :=
  match writeRefusal w.st r data with
  | some reason => refuse reason index w
  | none => performWrite r data w

/-! ## Reads -/

/-- A Read of CLAIM: the first case of R98 that applies. -/
def executeClaim (index : Byte) (w : Work) : Work × Reply :=
  if w.st.mc.mode = .lockdown then refuse .mode index w
  else if w.st.topUnannounced then
    (announceCompound w, { outcome := .done, data := w.st.claimWord compoundId })
  else
    match w.st.candidate with
    | some e => (claimCandidate e.source w, { outcome := .done, data := w.st.claimWord e.source })
    | none => (w, { outcome := .empty, data := 0 })

/-- An admitted Read (R24 to R26). -/
def executeRead (index : Byte) (r : Reg) (w : Work) : Work × Reply :=
  match r with
  | .claim => executeClaim index w
  | .lockrec =>
    (w.map fun s => { s with mc := { s.mc with causeSeen := true } },
     { outcome := .done, data := readReg w.st .lockrec })
  | .timeHi =>
    (w.map fun s => { s with tc := { s.tc with snapshot := s.tc.count } },
     { outcome := .done, data := readReg w.st .timeHi })
  | r => (w, { outcome := .done, data := readReg w.st r })

end Sys2Proof.Machine
end

