-- ==== Sys2Proof/Machine/Link.lean ====
section
/-! DEFINITION. The Link Interface (chapter 1): the link events, the completion of a frame with its admission
checks and its happening, rejections, and the frame commands of the host. -/

namespace Sys2Proof.Machine

/-! ## The frame's happening -/

/-- The frame is recorded (R21). -/
def recordFrame (p : PrevFrame) (s : State) : State :=
  { s with link := { s.link with prev := p } }

/-- The hold ends (R34). -/
def endHold (s : State) : State := { s with link := { s.link with hold := none } }

/-- The LINKFAULT flag of a rejection's cause (R15). -/
def faultFlag : FrameOutcome → Nat
  | .rejectedLength => 0
  | .rejectedCheck => 1
  | .rejectedForm => 2
  | _ => 3

/-- Steps 1 to 4 of a rejection: the hold ends, the flag is set, LINKCOUNT counts, the record is replaced
(R14). -/
def recordRejection (cause : FrameOutcome) (tag : BitVec 4) (index : Byte) (s : State) : State :=
  let count := satInc s.link.linkCount
  { s with link := { s.link with
      hold := none
      linkFault := setBit s.link.linkFault (faultFlag cause)
      linkCount := count
      prev := { outcome := cause, tag := tag, data := count ++ index } } }

/-- A rejection's happening: its record, then the LINK occurrence where one arises, then the end-of-happening
updates (R14, R92). -/
def rejectFrame (cause : FrameOutcome) (tag : BitVec 4) (index : Byte) (s : State) : State :=
  finish (occur linkId ((outcomeCode cause).zeroExtend 16)
    ((begin s).map (recordRejection cause tag index)))

/-- The frame addresses this node (R12). -/
def State.addressed (s : State) (r : Request) : Bool :=
  if r.reach = 0 then r.node == s.mc.nodeId && s.mc.nodeId != 0
  else if r.reach = 1 then s.regs.zones.getLsbD r.node.toNat
  else true

/-- The Target check passes: the register at the index, where its access class allows the operation (R13). A
Probe names no register. -/
def targetOf (r : Request) : Option Reg :=
  match regAt r.index with
  | none => none
  | some reg =>
    match opOf r.op, reg.access with
    | .read, .readWrite => some reg
    | .read, .readOnly => some reg
    | .write, .readWrite => some reg
    | .write, .writeOnly => some reg
    | .hold, .readWrite => some reg
    | _, _ => none

/-- The hold that a directed Write to the held register meets broken (R35). -/
def State.holdBroken (s : State) (r : Request) : Bool :=
  match s.link.hold with
  | some h => r.isDirected && h.index == r.index && h.changed
  | none => false

/-- Register execution of an admitted frame (R22 to R27, R34, R35). The hold in `s0`, the state at the start of
the happening, has ended in `w`. -/
def executeRequest (s0 : State) (r : Request) (reg : Reg) (w : Work) : Work × Reply :=
  match opOf r.op with
  | .probe => (w, { outcome := .done, data := 0 })
  | .read => executeRead r.index reg w
  | .hold =>
    (w.map fun s => { s with link := { s.link with hold := some { index := r.index, changed := false } } },
     { outcome := .done, data := readReg w.st reg })
  | .write =>
    if s0.holdBroken r then (w, { outcome := .holdBroken, data := readReg w.st reg })
    else executeWrite r.index reg r.data w

/-- The frame is recorded with what register execution reports, and a directed frame whose execution ends in
Running loads the watchdog (R21, R22, R136). -/
def recordReply (r : Request) (reply : Reply) (s : State) : State :=
  let s1 := recordFrame { outcome := reply.outcome, tag := r.tag, data := reply.data } s
  if r.isDirected && s1.mc.mode == .running then loadWatchdog s1 else s1

/-- The occurrence that an accepted RAISE causes (R110). -/
def raiseOccurrence (r : Request) (reg : Reg) (reply : Reply) (w : Work) : Work :=
  if opOf r.op = .write ∧ reg = .raise ∧ reply.outcome = .done then occur hostraiseId r.data w else w

/-- The happening of an admitted frame: register execution, the record, the occurrence of a RAISE with the
derived ones, and the end-of-happening updates (R92). -/
def admitFrame (r : Request) (reg : Reg) (s : State) : State :=
  let w := (begin s).map endHold
  let (w1, reply) := executeRequest s r reg w
  finish (raiseOccurrence r reg reply (w1.map (recordReply r reply)))

/-- A frame completes: the admission checks in their order, and what follows from them (R8). `lengthOk` says
that LSEL closed it after exactly 48 edges. A frame that does not address the node is dropped without a
trace (R12). DEDUCED, safe: notes/assumptions/12.md. -/
def completeFrame (lengthOk : Bool) (f : Frame48) (s : State) : State :=
  let r := parseFrame f
  if !lengthOk then rejectFrame .rejectedLength 0 0 s
  else if !r.crcOk then rejectFrame .rejectedCheck r.tag r.index s
  else if r.formFault then rejectFrame .rejectedForm r.tag r.index s
  else if !s.addressed r then s
  else if opOf r.op = .probe then admitFrame r .ident s
  else
    match targetOf r with
    | none => rejectFrame .rejectedTarget r.tag r.index s
    | some reg => admitFrame r reg s

/-! ## Link events -/

/-- The state of the frame in progress is set to zero and LDO is released, as a frame begins and as it ends (R1,
section 1.2). The latest receipt stays as it was built. DESIGN CHOICE, safe: notes/assumptions/8.md. -/
def closeFrame (phase : LinkPhase) (s : State) : State :=
  { s with link := { s.link with
      phase := phase, edges := 0, shift := 0, idle := 0, driving := false, ldo := none } }

/-- LSEL falls (R1). In Shifting and Spent it is low already. -/
def lselFall (s : State) : State :=
  let s1 := { s with link := { s.link with lselHigh := false } }
  if s.link.phase = .ready then closeFrame .shifting s1 else s1

/-- LSEL rises (R1): a frame in progress ends, and completes as a happening if it has an edge (R3, R4); Spent
becomes Ready; Barred becomes Ready once the reset interval has ended. -/
def lselRise (s : State) : State :=
  let s1 := { s with link := { s.link with lselHigh := true } }
  match s.link.phase with
  | .ready => s1
  | .spent => closeFrame .ready s1
  | .barred => if s.rst.held || s.rst.intervalLeft != 0 then s1 else closeFrame .ready s1
  | .shifting =>
    let s2 := closeFrame .ready s1
    if s.link.edges = 0 then s2
    else completeFrame (s.link.edges = Config.frameEdges) s.link.shift s2

/-- The drive decision from the raw byte Q0; a node that decides to drive builds its receipt from the state as it
stands (R17, R19). -/
def decideDrive (q0 : Byte) (s : State) : State :=
  { s with link := { s.link with
      driving := s.drives q0
      receipt := if s.drives q0 then s.receiptWord else s.link.receipt } }

/-- LCK rises with LDI at this level (R1, R2). -/
def lckRise (ldi : Bool) (s : State) : State :=
  if s.link.phase = .shifting then
    let n := s.link.edges
    let bits := if n < Config.frameEdges then (s.link.shift <<< 1) ||| (BitVec.ofBool ldi).zeroExtend 48 else s.link.shift
    let s1 := { s with link := { s.link with
      edges := min Config.edgeLimit (n + 1), shift := bits, idle := 0 } }
    if n = 7 then decideDrive (bits.extractLsb' 0 8) s1 else s1
  else s

/-- LCK falls (R1, R18): a driving node presents the receipt bit that the host samples at the next rising edge, and
releases LDO after the 48th. -/
def lckFall (s : State) : State :=
  if s.link.phase = .shifting ∧ s.link.driving then
    if s.link.edges < Config.frameEdges then
      { s with link := { s.link with
          ldo := some (s.link.receipt.getLsbD (Config.frameEdges - 1 - s.link.edges)) } }
    else { s with link := { s.link with ldo := none, driving := false } }
  else s

/-- The idle timeout: the frame is terminated, the link is Spent, and the frame completes as a Length fault
(R5). -/
def idleTimeout (s : State) : State :=
  if s.link.phase = .shifting then rejectFrame .rejectedLength 0 0 (closeFrame .spent s) else s

/-! ## Frame commands -/

/-- The rest of a frame of `m` edges with these bits is received: all of it where no edge of the frame in progress
has come, and what is left of it where the edges that have come were its first bits. Where they were other bits,
the frame's edges follow them (R2). DESIGN CHOICE, safe: notes/assumptions/4.md. -/
def receiveRest (m : Nat) (f : Frame48) (s : State) : State :=
  if s.link.phase = .shifting then
    let n := s.link.edges
    let begun := decide (n ≤ m) && decide (n ≤ Config.frameEdges) && s.link.shift == f >>> (Config.frameEdges - n)
    let stream := if begun then f else (s.link.shift <<< (Config.frameEdges - n)) ||| (f >>> n)
    let total := min Config.edgeLimit (if begun then m else n + m)
    let s1 := { s with link := { s.link with
      edges := total
      shift := stream >>> (Config.frameEdges - total)
      idle := if total = n then s.link.idle else 0 } }
    if n < 8 ∧ 8 ≤ total then decideDrive (stream.extractLsb' 40 8) s1 else s1
  else s

/-- A frame of `m` edges with these bits, closed by LSEL: LSEL falls if it is high, the frame's edges come, and
LSEL rises (R1 to R4). -/
def hostFrame (m : Nat) (f : Frame48) (s : State) : State :=
  lselRise (receiveRest m f (lselFall s))

/-- A well-formed request frame of the host, with its CRC (R6, R7). -/
def sendRequest (dest : Dest) (op : FrameOp) (index : Byte) (data : Word) (tag : BitVec 4) (s : State) : State :=
  hostFrame Config.frameEdges (request dest op index data tag).frame s

end Sys2Proof.Machine
end

