-- ==== Sys2Proof/Machine/Tick.lean ====
section
/-! DEFINITION. The scan tick, R93: its eight steps, the deadlines and the watchdog with their expiries
(chapter 8), the readback check (R147 to R150), and the end of the reset interval (R52). -/

namespace Sys2Proof.Machine

/-! ## Steps 1 and 2 -/

/-- Step 1: the tick counter advances (R95). -/
def advanceCounter (s : State) : State := { s with tc := { s.tc with count := s.tc.count + 1 } }

/-- The settle filter of one line: required number, settle count, filtered level and raw sample give the new
count, the new level, and whether the level changed (R60). -/
def settleLine (required count : Nat) (level raw : Bool) : Nat × Bool × Bool :=
  if raw = level then (0, level, false)
  else if max 1 required ≤ count + 1 then (0, raw, true)
  else (count + 1, level, false)

/-- The settle filter of line Lk in a state, for this tick's sample (R60). -/
def State.settleOf (s : State) (lines : BitVec 24) (k : LineId) : Nat × Bool × Bool :=
  settleLine (s.src (lineSource k)).settle (s.scan.settle.get k) (s.scan.filtered.getLsbD k.val)
    (lines.getLsbD k.val)

/-- The changes of filtered level that step 2 recognises, bit k for line Lk; none at the first tick after a hard
reset (R60, R61). -/
def State.changedLines (s : State) (lines : BitVec 24) : BitVec 24 :=
  if s.scan.started then BitVec.ofFnLE fun k => (s.settleOf lines k).2.2 else 0

/-- Step 2: the samples, and the filtered levels and settle counts (R59 to R61). -/
def sampleInputs (lines : BitVec 24) (readback : Word) (s : State) : State :=
  { s with scan :=
      if s.scan.started then
        { rawLines := lines
          filtered := BitVec.ofFnLE fun k => (s.settleOf lines k).2.1
          settle := Vector.ofFn fun k => (s.settleOf lines k).1
          rawReadback := readback
          started := true }
      else
        { rawLines := lines
          filtered := lines
          settle := Vector.replicate 24 0
          rawReadback := readback
          started := true } }

/-! ## Step 3 -/

/-- The external source of a line has an occurrence at this tick: level triggers by R63, edge triggers by R64. -/
def State.lineOccurs (s : State) (changed : BitVec 24) (k : LineId) : Bool :=
  let x := s.src (lineSource k)
  let level := s.scan.filtered.getLsbD k.val
  let change := changed.getLsbD k.val
  x.armed &&
  match x.trigger with
  | .levelHigh => level && (change || x.state == .quiet)
  | .levelLow => !level && (change || x.state == .quiet)
  | .rising => change && level
  | .falling => change && !level
  | .both => change
  | .unusable => false

/-- One line at step 3; its detail word has the filtered level in bit 0 (R65). -/
def scanLine (changed : BitVec 24) (w : Work) (k : LineId) : Work :=
  if w.live && w.st.lineOccurs changed k then
    occurAll (lineSource k) ((BitVec.ofBool (w.st.scan.filtered.getLsbD k.val)).zeroExtend 16) w
  else w

/-- Step 3: the external occurrences, in ascending source index (R65). -/
def stepExternal (changed : BitVec 24) (w : Work) : Work :=
  (List.finRange 24).foldl (scanLine changed) w

/-! ## Step 4 -/

/-- What the readback check makes of one channel: its counter, its membership, and whether it joins (R147). -/
def checkChannel (s : State) (c : Channel) : Nat × Bool × Bool :=
  let counter := s.act.counters.get c
  let member := s.act.mismatchSet.getLsbD c.val
  let agrees := s.scan.rawReadback.getLsbD c.val == s.act.effective.getLsbD c.val
  if !s.act.rbcheck.getLsbD c.val then (0, false, false)
  else if member && agrees then (0, false, false)
  else if member then (counter, true, false)
  else if s.act.moved.getLsbD c.val then (0, false, false)
  else if agrees then (0, false, false)
  else if s.readbackWindow ≤ counter + 1 then (counter + 1, true, true)
  else (counter + 1, false, false)

/-- The channels that join the mismatch set at this step (R148). -/
def State.joining (s : State) : Word := wordOf fun c => (checkChannel s c).2.2

/-- The readback comparison: counters, mismatch set, MISMATCHDET and moved marks (R147 to R149). A bit of
MISMATCHDET that changes breaks a hold on it (R35, R149), in Lockdown too, where R126 lets only frames change the hold.
DESIGN CHOICE, unsafe: notes/assumptions/16.md. -/
def compareReadback (s : State) : State :=
  let det := s.act.mismatchDet ||| s.joining
  let s1 := { s with act := { s.act with
    counters := Vector.ofFn fun c => (checkChannel s c).1
    mismatchSet := wordOf fun c => (checkChannel s c).2.1
    mismatchDet := det
    moved := 0 } }
  if det = s.act.mismatchDet then s1 else markHold 0x27 s1

/-- Step 4: the comparison, and one MISMATCH occurrence where channels have joined in Running (R150). -/
def stepReadback (w : Work) : Work :=
  let joined := w.st.joining
  let w1 := w.map compareReadback
  if joined = 0 then w1 else occurAll mismatchId joined w1

/-! ## Step 5 -/

/-- The top entry's service deadline replaced. -/
def setTopDeadline (d : Deadline) (s : State) : State :=
  { s with svc := { s.svc with stack := mapTop (fun e => { e with deadline := d }) s.svc.stack } }

/-- The expiry of the service deadline of an ordinary top, whose source is `i` (R133, R134). -/
def expireService (i : SourceId) (w : Work) : Work :=
  occurAll overrunId ((sourceBits i).zeroExtend 16)
    (w.map fun s => setTopDeadline .spent (s.setSrc i { s.src i with overrun := true }))

/-- The second source of a nested overrun: the source below the top, or the top's own where the stack holds one
entry (R123, cause 5). -/
def State.belowTop (s : State) : BitVec 5 :=
  match s.svc.stack with
  | _ :: below :: _ => sourceBits below.source
  | [top] => sourceBits top.source
  | [] => 0

/-- The expiry of the service deadline of an OVERRUN or COMPOUND top (R135). -/
def expireNested (i : SourceId) (w : Work) : Work :=
  enterLockdown 5 (some i) w.st.belowTop (w.map (setTopDeadline .spent))

/-- The service deadline of the top, whose source is `i`, expires (R132). -/
def expireTop (i : SourceId) (w : Work) : Work :=
  if i = overrunId ∨ i = compoundId then expireNested i w else expireService i w

/-- Step 5: the service deadline of the top counts, if that entry was the top when the tick began; within a tick
entries are only pushed, so it was if the stack is as deep as then (R93, R132). -/
def stepService (depth : Nat) (w : Work) : Work :=
  match w.st.svc.stack with
  | [] => w
  | top :: _ =>
    if w.st.svc.stack.length ≠ depth then w
    else
      match top.deadline with
      | .runningDown n =>
        if n ≤ 1 then expireTop top.source w else w.map (setTopDeadline (.runningDown (n - 1)))
      | .none => w
      | .spent => w

/-! ## Step 6 -/

/-- The claim deadline of a source's entry replaced. -/
def setClaimDeadline (i : SourceId) (d : Deadline) (s : State) : State :=
  { s with arb := { s.arb with
      waiting := s.arb.waiting.map fun e => if e.source = i then { e with deadline := d } else e } }

/-- The claim-deadline state of a source's entry in the pending list. -/
def State.claimDeadlineOf (s : State) (i : SourceId) : Deadline :=
  match s.arb.waiting.find? (·.source == i) with
  | some e => e.deadline
  | none => .none

/-- The expiry of the claim deadline of the entry of source `i`, R129 steps 1 to 3 and what they give rise
to. -/
def expireClaim (i : SourceId) (w : Work) : Work :=
  let w1 := w.map fun s => (setClaimDeadline i .spent s).setSrc i { s.src i with expired := true }
  let w2 := if (w1.st.src i).reactWhen = .atDeadline then applyReaction i w1 else w1
  drain (occur staleId ((sourceBits i).zeroExtend 16) w2)

/-- One visit of step 6 (R128). -/
def visitEntry (w : Work) (i : SourceId) : Work :=
  if w.live && w.st.eligible i then
    match w.st.claimDeadlineOf i with
    | .runningDown n =>
      if n ≤ 1 then expireClaim i w else w.map (setClaimDeadline i (.runningDown (n - 1)))
    | .none => w
    | .spent => w
  else w

/-- Step 6: the entries that stood in the list when the tick began are visited, in their order as the step
begins (R93, R128). -/
def stepClaims (atStart : List SourceId) (w : Work) : Work :=
  ((w.st.arb.waiting.map (·.source)).filter fun i => atStart.contains i).foldl visitEntry w

/-! ## Step 7 -/

/-- The expiry of the watchdog (R137). -/
def expireWatchdog (w : Work) : Work := occurAll silenceId 0 (w.map stopWatchdog)

/-- Step 7: the watchdog counts (R137). No step of a tick loads it, so it was running when the tick began. -/
def stepWatchdog (w : Work) : Work :=
  match w.st.dl.watchdog with
  | none => w
  | some n =>
    if n ≤ 1 then expireWatchdog w
    else w.map fun s => { s with dl := { s.dl with watchdog := some (n - 1) } }

/-! ## The tick -/

/-- A step of a tick that is made only while the happening, begun in Running, is not abandoned (R94). -/
def ifLive (f : Work → Work) (w : Work) : Work := if w.live then f w else w

/-- Steps 3 to 7 of a tick. In Configuring and Lockdown only the comparison of step 4 is made; in Running an
entry to Lockdown abandons the steps that remain (R93, R94). -/
def tickSteps (changed : BitVec 24) (w : Work) : Work :=
  if w.startedRunning then
    let depth := w.st.svc.stack.length
    let atStart := w.st.arb.waiting.map (·.source)
    ifLive stepWatchdog
      (ifLive (stepClaims atStart)
        (ifLive (stepService depth)
          (ifLive stepReadback (stepExternal changed w))))
  else w.map compareReadback

/-- The happening of a scan tick (R93). -/
def tickHappening (lines : BitVec 24) (readback : Word) (s : State) : State :=
  finish (tickSteps (s.changedLines lines) (begin (sampleInputs lines readback (advanceCounter s))))

/-- The reset interval ends: the link becomes Ready if LSEL is high, and otherwise stays Barred until it rises
(R52). -/
def endInterval (s : State) : State :=
  let s1 := { s with rst := { s.rst with intervalLeft := 0, powerOnSeen := false } }
  if s.link.lselHigh then closeFrame .ready s1 else s1

/-- A tick of the reset interval is counted, and the last one ends it (R52). -/
def countInterval (s : State) : State :=
  if s.rst.intervalLeft = 0 then s
  else if s.rst.intervalLeft = 1 then endInterval s
  else { s with rst := { s.rst with intervalLeft := s.rst.intervalLeft - 1 } }

/-- The idle count of a frame in progress advances, and the 20th tick ends the frame (R5). -/
def countIdle (s : State) : State :=
  if s.link.phase = .shifting then
    let s1 := { s with link := { s.link with idle := s.link.idle + 1 } }
    if Config.idleLimit ≤ s.link.idle + 1 then idleTimeout s1 else s1
  else s

/-- A scan tick: its happening, then what it ends, the reset interval or an idle frame. While a hard reset is
asserted no tick is produced (R50). -/
def scanTick (lines : BitVec 24) (readback : Word) (s : State) : State :=
  if s.rst.held then s else countIdle (countInterval (tickHappening lines readback s))

end Sys2Proof.Machine
end

