-- ==== Sys2Proof/Machine/ActionCommands.lean ====
section
/-! DEFINITION. The meanings of the eight actions, each a Write of ACTION (index 0x02) with the action's code as
its data word (R36). -/

namespace Sys2Proof.Machine

/-- The frame of an action (R36). -/
def sendAction (dest : Dest) (code : Word) (tag : BitVec 4) (s : State) : State :=
  sendRequest dest .write 0x02 code tag s

/-- START, code 1 (R42). -/
def execStart (dest : Dest) (tag : BitVec 4) (s : State) : Host.Outcome State Fault Refusal :=
  .next (sendAction dest 1 tag s)

/-- STOP, code 2 (R43). -/
def execStop (dest : Dest) (tag : BitVec 4) (s : State) : Host.Outcome State Fault Refusal :=
  .next (sendAction dest 2 tag s)

/-- RECOVER, code 3 (R47). -/
def execRecover (dest : Dest) (tag : BitVec 4) (s : State) : Host.Outcome State Fault Refusal :=
  .next (sendAction dest 3 tag s)

/-- SEAL, code 4 (R37). -/
def execSealNode (dest : Dest) (tag : BitVec 4) (s : State) : Host.Outcome State Fault Refusal :=
  .next (sendAction dest 4 tag s)

/-- FORCE_LOCKDOWN, code 5 (R44). -/
def execForceLockdown (dest : Dest) (tag : BitVec 4) (s : State) : Host.Outcome State Fault Refusal :=
  .next (sendAction dest 5 tag s)

/-- REINIT, code 6 (R48). -/
def execReinit (dest : Dest) (tag : BitVec 4) (s : State) : Host.Outcome State Fault Refusal :=
  .next (sendAction dest 6 tag s)

/-- JOURNAL_TAKE, code 7 (R158). -/
def execJournalTake (dest : Dest) (tag : BitVec 4) (s : State) : Host.Outcome State Fault Refusal :=
  .next (sendAction dest 7 tag s)

/-- JOURNAL_CLEAR, code 8 (R159). -/
def execJournalClear (dest : Dest) (tag : BitVec 4) (s : State) : Host.Outcome State Fault Refusal :=
  .next (sendAction dest 8 tag s)

end Sys2Proof.Machine
end

