-- ==== Sys2Proof/Machine/EventCommands.lean ====
section
/-! DEFINITION. The meanings of CLAIM, COMPLETE and RAISE (chapter 6). -/

namespace Sys2Proof.Machine

/-- CLAIM: a Read of index 0x10 (R98). -/
def execClaim (node : BitVec 4) (data : Word) (tag : BitVec 4) (s : State) :
    Host.Outcome State Fault Refusal :=
  .next (sendRequest (.directed node) .read 0x10 data tag s)

/-- COMPLETE: a Write of index 0x11 (R105, R106). -/
def execComplete (dest : Dest) (data : Word) (tag : BitVec 4) (s : State) :
    Host.Outcome State Fault Refusal :=
  .next (sendRequest dest .write 0x11 data tag s)

/-- RAISE: a Write of index 0x18 (R110, R111). -/
def execRaise (dest : Dest) (data : Word) (tag : BitVec 4) (s : State) : Host.Outcome State Fault Refusal :=
  .next (sendRequest dest .write 0x18 data tag s)

end Sys2Proof.Machine
end

