-- ==== Sys2Proof/Machine/LinkCommands.lean ====
section
/-! DEFINITION. The meanings of the link events and of the frames that no register execution follows: LSEL_FALL,
LSEL_RISE, LCK_RISING_EDGE, LCK_FALLING_EDGE, NULL_FRAME, IDLE_TIMEOUT, FRAME_REJECTION and FRAME_DROPPED
(chapter 1). -/

namespace Sys2Proof.Machine

/-- LSEL_FALL (R1). -/
def execLselFall (s : State) : Host.Outcome State Fault Refusal := .next (lselFall s)

/-- LSEL_RISE, in any link state (R1, R3, R4). -/
def execLselRise (s : State) : Host.Outcome State Fault Refusal := .next (lselRise s)

/-- LCK_RISING_EDGE (R1, R2, R17). -/
def execLckRisingEdge (ldi : Bool) (s : State) : Host.Outcome State Fault Refusal := .next (lckRise ldi s)

/-- LCK_FALLING_EDGE (R1, R18). -/
def execLckFallingEdge (s : State) : Host.Outcome State Fault Refusal := .next (lckFall s)

/-- NULL_FRAME: a frame of no edge (R4). -/
def execNullFrame (s : State) : Host.Outcome State Fault Refusal := .next (hostFrame 0 0 s)

/-- IDLE_TIMEOUT (R5). Where no frame is in progress there is none to time out. -/
def execIdleTimeout (s : State) : Host.Outcome State Fault Refusal := .next (idleTimeout s)

/-- FRAME_REJECTION: a frame of any number of edges and any bits, which the admission checks judge (R8 to
R14). -/
def execFrameRejection (edges : Nat) (raw : Frame48) (s : State) : Host.Outcome State Fault Refusal :=
  .next (hostFrame edges raw s)

/-- FRAME_DROPPED: a complete frame of these fields, which the Addressing check judges (R8, R12). DESIGN CHOICE, safe:
notes/assumptions/6.md. -/
def execFrameDropped (dest : Dest) (op : FrameOp) (index : Byte) (data : Word) (tag : BitVec 4) (s : State) :
    Host.Outcome State Fault Refusal :=
  .next (sendRequest dest op index data tag s)

end Sys2Proof.Machine
end

