-- ==== Sys2Proof/Machine/RegisterCommands.lean ====
section
/-! DEFINITION. The meanings of the frames that probe, hold, read and write registers (chapters 2, 4, 9, 11).
Each is the frame with the row's operation and register, through the link, its admission checks and register
execution. -/

namespace Sys2Proof.Machine

/-- PROBE (R23). -/
def execProbe (node tag : BitVec 4) (s : State) : Host.Outcome State Fault Refusal :=
  .next (sendRequest (.directed node) .probe 0 0 tag s)

/-- HOLD (R34). -/
def execHold (node : BitVec 4) (index : Byte) (data : Word) (tag : BitVec 4) (s : State) :
    Host.Outcome State Fault Refusal :=
  .next (sendRequest (.directed node) .hold index data tag s)

/-- REGISTER_WRITE (R27). -/
def execRegisterWrite (dest : Dest) (index : Byte) (data : Word) (tag : BitVec 4) (s : State) :
    Host.Outcome State Fault Refusal :=
  .next (sendRequest dest .write index data tag s)

/-- LINKFAULT_WRITE (R15): index 0x05. -/
def execLinkfaultWrite (dest : Dest) (data : Word) (tag : BitVec 4) (s : State) :
    Host.Outcome State Fault Refusal :=
  .next (sendRequest dest .write 0x05 data tag s)

/-- LINKCOUNT_WRITE (R16): index 0x06. -/
def execLinkcountWrite (dest : Dest) (data : Word) (tag : BitVec 4) (s : State) :
    Host.Outcome State Fault Refusal :=
  .next (sendRequest dest .write 0x06 data tag s)

/-- MISMATCHDET_WRITE (R149): index 0x27. -/
def execMismatchdetWrite (dest : Dest) (data : Word) (tag : BitVec 4) (s : State) :
    Host.Outcome State Fault Refusal :=
  .next (sendRequest dest .write 0x27 data tag s)

/-- DESCRIPTOR_WRITE (R31, R163): index 0x40 + 4s + w. -/
def execDescriptorWrite (dest : Dest) (source : BitVec 5) (word : BitVec 2) (data : Word) (tag : BitVec 4)
    (s : State) : Host.Outcome State Fault Refusal :=
  .next (sendRequest dest .write (descIndex source word) data tag s)

/-- REACTION_SET_WRITE (R139, R164): index 0xC0 + 2(k - 1), or the next for word B. -/
def execReactionSetWrite (dest : Dest) (set : BitVec 3) (wordB : Bool) (data : Word) (tag : BitVec 4)
    (s : State) : Host.Outcome State Fault Refusal :=
  .next (sendRequest dest .write (reactIndex set wordB) data tag s)

/-- TIME_HI_READ (R26): index 0x38. -/
def execTimeHiRead (node : BitVec 4) (data : Word) (tag : BitVec 4) (s : State) :
    Host.Outcome State Fault Refusal :=
  .next (sendRequest (.directed node) .read 0x38 data tag s)

/-- LOCKREC_READ (R25): index 0x1D. -/
def execLockrecRead (node : BitVec 4) (data : Word) (tag : BitVec 4) (s : State) :
    Host.Outcome State Fault Refusal :=
  .next (sendRequest (.directed node) .read 0x1D data tag s)

/-- ARM (R72): index 0x0C. -/
def execArm (dest : Dest) (data : Word) (tag : BitVec 4) (s : State) : Host.Outcome State Fault Refusal :=
  .next (sendRequest dest .write 0x0C data tag s)

/-- DISARM (R73): index 0x0D. -/
def execDisarm (dest : Dest) (data : Word) (tag : BitVec 4) (s : State) : Host.Outcome State Fault Refusal :=
  .next (sendRequest dest .write 0x0D data tag s)

/-- RELEASE (R145): index 0x26. -/
def execRelease (dest : Dest) (data : Word) (tag : BitVec 4) (s : State) : Host.Outcome State Fault Refusal :=
  .next (sendRequest dest .write 0x26 data tag s)

end Sys2Proof.Machine
end

