-- ==== Sys2Proof/Machine/ResetCommands.lean ====
section
/-! DEFINITION. The meanings of POWER_ON_RESET, PIN_RESET, HARD_RESET_RELEASE and RESET_INTERVAL_END (R49 to
R54). -/

namespace Sys2Proof.Machine

/-- POWER_ON_RESET: the controller is held at its reset state, and the next release reports power-on (R50, R53). -/
def execPowerOnReset (s : State) : Host.Outcome State Fault Refusal :=
  .next (hardReset true s)

/-- PIN_RESET: the controller is held at its reset state; the next release reports power-on only if power-on reset
was asserted since the last completed reset interval (R50, R51, R53). -/
def execPinReset (s : State) : Host.Outcome State Fault Refusal :=
  .next (hardReset s.rst.powerOnSeen s)

/-- The node ID is four times the IDB level plus the IDA level (R49). -/
def strapId (ida idb : BitVec 2) : BitVec 4 := idb ++ ida

/-- The release of a hard reset: the node latches its ID, the Origin record shows it, the cause is set, and the
reset interval starts (R20, R49, R52, R53). -/
def releaseReset (nodeId : BitVec 4) (s : State) : State :=
  { s with
    mc := { s.mc with
      nodeId := nodeId
      resetCause := if s.rst.powerOnSeen then .powerOn else .pin }
    link := { s.link with prev := { outcome := .origin, tag := 0, data := identWord nodeId } }
    rst := { s.rst with held := false, intervalLeft := Config.resetInterval } }

/-- HARD_RESET_RELEASE (R52). Where no hard reset is asserted there is none to release: the pins have no effect
(R51). -/
def execHardResetRelease (ida idb : BitVec 2) (s : State) : Host.Outcome State Fault Refusal :=
  .next (if s.rst.held then releaseReset (strapId ida idb) s else s)

/-- RESET_INTERVAL_END (R52). Outside a reset interval there is none to end. -/
def execResetIntervalEnd (s : State) : Host.Outcome State Fault Refusal :=
  .next (if s.rst.held || s.rst.intervalLeft == 0 then s else endInterval s)

end Sys2Proof.Machine
end

