-- ==== Sys2Proof/Machine/TickCommands.lean ====
section
/-! DEFINITION. The meanings of SCAN_TICK and of the four expiries (chapters 5 and 8). SCAN_TICK counts every
deadline and processes each expiry itself; an expiry command is the expiry alone, at the moment at which the
remainder reaches 0, with the end-of-happening updates after it (DESIGN CHOICE, safe: notes/assumptions/5.md). -/

namespace Sys2Proof.Machine

/-- SCAN_TICK (R93). -/
def execScanTick (lines : BitVec 24) (readback : Word) (s : State) : Host.Outcome State Fault Refusal :=
  .next (scanTick lines readback s)

/-- A deadline that is running down. -/
def Deadline.runs : Deadline → Bool
  | .runningDown _ => true
  | .none => false
  | .spent => false

/-- The source of a top whose service deadline runs down in Running, so that it can expire (R132). -/
def State.expiringTop (s : State) : Option SourceId :=
  match s.svc.stack with
  | top :: _ => if s.mc.mode = .running ∧ top.deadline.runs then some top.source else none
  | [] => none

/-- SERVICE_DEADLINE_EXPIRY: R133, where the top is an ordinary source with a deadline running down. -/
def execServiceDeadlineExpiry (s : State) : Host.Outcome State Fault Refusal :=
  .next
    (match s.expiringTop with
     | some i => if i = overrunId ∨ i = compoundId then s else finish (expireService i (begin s))
     | none => s)

/-- NESTED_OVERRUN: R135, where the top is OVERRUN or COMPOUND with a deadline running down. -/
def execNestedOverrun (s : State) : Host.Outcome State Fault Refusal :=
  .next
    (match s.expiringTop with
     | some i => if i = overrunId ∨ i = compoundId then finish (expireNested i (begin s)) else s
     | none => s)

/-- CLAIM_DEADLINE_EXPIRY: R129, where the source's entry is pending and eligible with its deadline running down,
in Running (R128). -/
def execClaimDeadlineExpiry (source : BitVec 5) (s : State) : Host.Outcome State Fault Refusal :=
  let i := sourceOf source
  .next
    (if s.mc.mode = .running ∧ s.eligible i ∧ (s.claimDeadlineOf i).runs then finish (expireClaim i (begin s))
     else s)

/-- WATCHDOG_EXPIRY: R137, where the watchdog is running down, in Running. -/
def execWatchdogExpiry (s : State) : Host.Outcome State Fault Refusal :=
  .next
    (if s.mc.mode = .running ∧ s.dl.watchdog.isSome then finish (expireWatchdog (begin s)) else s)

end Sys2Proof.Machine
end

