-- ==== Sys2Proof/Machine/Dispatch.lean ====
section
/-! DEFINITION. The dispatch: one arm per command, each one call of its meaning. -/

namespace Sys2Proof.Machine

def exec (i : Instr) (s : State) : Host.Outcome State Fault Refusal :=
  match i with
  | .powerOnReset => Sys2Proof.Machine.execPowerOnReset s
  | .pinReset => Sys2Proof.Machine.execPinReset s
  | .hardResetRelease ida idb => Sys2Proof.Machine.execHardResetRelease ida idb s
  | .resetIntervalEnd => Sys2Proof.Machine.execResetIntervalEnd s
  | .lselFall => Sys2Proof.Machine.execLselFall s
  | .nullFrame => Sys2Proof.Machine.execNullFrame s
  | .idleTimeout => Sys2Proof.Machine.execIdleTimeout s
  | .frameRejection edges raw => Sys2Proof.Machine.execFrameRejection edges raw s
  | .probe node tag => Sys2Proof.Machine.execProbe node tag s
  | .hold node index data tag => Sys2Proof.Machine.execHold node index data tag s
  | .registerWrite dest index data tag => Sys2Proof.Machine.execRegisterWrite dest index data tag s
  | .linkfaultWrite dest data tag => Sys2Proof.Machine.execLinkfaultWrite dest data tag s
  | .linkcountWrite dest data tag => Sys2Proof.Machine.execLinkcountWrite dest data tag s
  | .mismatchdetWrite dest data tag => Sys2Proof.Machine.execMismatchdetWrite dest data tag s
  | .descriptorWrite dest source word data tag => Sys2Proof.Machine.execDescriptorWrite dest source word data tag s
  | .reactionSetWrite dest set wordB data tag => Sys2Proof.Machine.execReactionSetWrite dest set wordB data tag s
  | .timeHiRead node data tag => Sys2Proof.Machine.execTimeHiRead node data tag s
  | .lockrecRead node data tag => Sys2Proof.Machine.execLockrecRead node data tag s
  | .claim node data tag => Sys2Proof.Machine.execClaim node data tag s
  | .complete dest data tag => Sys2Proof.Machine.execComplete dest data tag s
  | .raise dest data tag => Sys2Proof.Machine.execRaise dest data tag s
  | .arm dest data tag => Sys2Proof.Machine.execArm dest data tag s
  | .disarm dest data tag => Sys2Proof.Machine.execDisarm dest data tag s
  | .release dest data tag => Sys2Proof.Machine.execRelease dest data tag s
  | .start dest tag => Sys2Proof.Machine.execStart dest tag s
  | .stop dest tag => Sys2Proof.Machine.execStop dest tag s
  | .recover dest tag => Sys2Proof.Machine.execRecover dest tag s
  | .sealNode dest tag => Sys2Proof.Machine.execSealNode dest tag s
  | .forceLockdown dest tag => Sys2Proof.Machine.execForceLockdown dest tag s
  | .reinit dest tag => Sys2Proof.Machine.execReinit dest tag s
  | .journalTake dest tag => Sys2Proof.Machine.execJournalTake dest tag s
  | .journalClear dest tag => Sys2Proof.Machine.execJournalClear dest tag s
  | .scanTick lines readback => Sys2Proof.Machine.execScanTick lines readback s
  | .serviceDeadlineExpiry => Sys2Proof.Machine.execServiceDeadlineExpiry s
  | .nestedOverrun => Sys2Proof.Machine.execNestedOverrun s
  | .claimDeadlineExpiry source => Sys2Proof.Machine.execClaimDeadlineExpiry source s
  | .watchdogExpiry => Sys2Proof.Machine.execWatchdogExpiry s
  | .lckRisingEdge ldi => Sys2Proof.Machine.execLckRisingEdge ldi s
  | .lckFallingEdge => Sys2Proof.Machine.execLckFallingEdge s
  | .lselRise => Sys2Proof.Machine.execLselRise s
  | .frameDropped dest op index data tag => Sys2Proof.Machine.execFrameDropped dest op index data tag s

end Sys2Proof.Machine
end

