-- ==== Sys2Proof/Safety.lean ====
section
/-! DEFINITION. The terms in which statements about the controller are made: commands executed in sequence, which
commands are request frames, what a node has heard when a frame ends, and the invariants of the rules. -/

namespace Sys2Proof.Machine

/-! ## Sequences of commands -/

/-- The commands executed one after another, stopping at the first fault or refusal. -/
def execAll : List Instr → State → Host.Outcome State Fault Refusal
  | [], s => .next s
  | c :: rest, s =>
    match exec c s with
    | .next t => execAll rest t
    | .fault r => .fault r
    | .refused r => .refused r

/-- The bits of a frame in transmission order, from bit `n - 1` down to bit 0. -/
def frameBits (f : Frame48) : Nat → List Bool
  | 0 => []
  | n + 1 => f.getLsbD n :: frameBits f n

/-- The link events of one clock period: a rising edge with LDI at this level, then a falling edge (R2, R18). -/
def clockBit (b : Bool) : List Instr := [.lckRisingEdge b, .lckFallingEdge]

/-- The link events of a whole frame of 48 clocks (R1, R2). -/
def wireFrame (f : Frame48) : List Instr :=
  [.lselFall] ++ (frameBits f 48).flatMap clockBit ++ [.lselRise]

/-- A hard reset is commanded. -/
def isHardReset : Instr → Bool
  | .powerOnReset => true
  | .pinReset => true
  | _ => false

/-- The bits of the request frame that a frame command sends; none for the other commands, and none for
NULL_FRAME and FRAME_REJECTION, whose frames need not be requests (R6). -/
def frameOf : Instr → Option Request
  | .probe node tag => some (request (.directed node) .probe 0 0 tag)
  | .hold node index data tag => some (request (.directed node) .hold index data tag)
  | .registerWrite dest index data tag => some (request dest .write index data tag)
  | .linkfaultWrite dest data tag => some (request dest .write 0x05 data tag)
  | .linkcountWrite dest data tag => some (request dest .write 0x06 data tag)
  | .mismatchdetWrite dest data tag => some (request dest .write 0x27 data tag)
  | .descriptorWrite dest source word data tag => some (request dest .write (descIndex source word) data tag)
  | .reactionSetWrite dest set wordB data tag => some (request dest .write (reactIndex set wordB) data tag)
  | .timeHiRead node data tag => some (request (.directed node) .read 0x38 data tag)
  | .lockrecRead node data tag => some (request (.directed node) .read 0x1D data tag)
  | .claim node data tag => some (request (.directed node) .read 0x10 data tag)
  | .complete dest data tag => some (request dest .write 0x11 data tag)
  | .raise dest data tag => some (request dest .write 0x18 data tag)
  | .arm dest data tag => some (request dest .write 0x0C data tag)
  | .disarm dest data tag => some (request dest .write 0x0D data tag)
  | .release dest data tag => some (request dest .write 0x26 data tag)
  | .start dest tag => some (request dest .write 0x02 1 tag)
  | .stop dest tag => some (request dest .write 0x02 2 tag)
  | .recover dest tag => some (request dest .write 0x02 3 tag)
  | .sealNode dest tag => some (request dest .write 0x02 4 tag)
  | .forceLockdown dest tag => some (request dest .write 0x02 5 tag)
  | .reinit dest tag => some (request dest .write 0x02 6 tag)
  | .journalTake dest tag => some (request dest .write 0x02 7 tag)
  | .journalClear dest tag => some (request dest .write 0x02 8 tag)
  | .frameDropped dest op index data tag => some (request dest op index data tag)
  | .powerOnReset | .pinReset | .hardResetRelease _ _ | .resetIntervalEnd => none
  | .lselFall | .nullFrame | .idleTimeout | .frameRejection _ _ => none
  | .scanTick _ _ | .serviceDeadlineExpiry | .nestedOverrun | .claimDeadlineExpiry _ | .watchdogExpiry => none
  | .lckRisingEdge _ | .lckFallingEdge | .lselRise => none

/-! ## Hearing a frame -/

/-- The link is Ready with no frame in progress, LSEL high and LDO released (R1). -/
def State.linkIdle (s : State) : Prop :=
  s.link.phase = .ready ∧ s.link.lselHigh = true ∧ s.link.edges = 0 ∧ s.link.shift = 0 ∧ s.link.idle = 0
  ∧ s.link.driving = false ∧ s.link.ldo = none

/-- A frame to this addressee addresses the node, and its Node field passes the Form check (R11, R12). -/
def State.hears (s : State) : Dest → Bool
  | .directed id => id == s.mc.nodeId && s.mc.nodeId != 0
  | .zone z => z != 0 && s.regs.zones.getLsbD z.toNat
  | .broadcast => true

/-- The addressee's frames are directed (R6). -/
def destDirected : Dest → Bool
  | .directed _ => true
  | .zone _ => false
  | .broadcast => false

/-- The state of an idle link after a frame of `m` edges with these bits, before the frame's happening: a node that
decided to drive at the 8th edge has built its receipt (R17, R19). -/
def State.sampled (s : State) (m : Nat) (f : Frame48) : State :=
  if 8 ≤ m ∧ s.drives (f.extractLsb' 40 8) = true then
    { s with link := { s.link with receipt := s.receiptWord } }
  else s

/-- The state of an idle link after a frame to this addressee, before the frame's happening: a node that the frame
names has built its receipt (R17, R19). -/
def State.heard (s : State) (dest : Dest) : State :=
  if destDirected dest && s.hears dest then { s with link := { s.link with receipt := s.receiptWord } } else s

/-- The state in which an admitted frame is recorded: the hold has ended, the record is replaced, and a directed
frame in Running has loaded the watchdog (R21, R34, R136). -/
def State.replied (s : State) (dest : Dest) (outcome : FrameOutcome) (tag : BitVec 4) (data : Word) : State :=
  let s1 := { s with link := { s.link with hold := none, prev := { outcome := outcome, tag := tag, data := data } } }
  if destDirected dest && s.mc.mode == .running then loadWatchdog s1 else s1

/-- The state after the happening of an admitted frame with this effect and this report (R22, R92). -/
def State.after (s : State) (dest : Dest) (outcome : FrameOutcome) (tag : BitVec 4) (data : Word)
    (effect : State → State) : State :=
  endHappening ((effect (s.heard dest)).replied dest outcome tag data)

/-- The state after the happening of a refused frame (R32, R33). -/
def State.refusedAs (s : State) (dest : Dest) (index : Byte) (tag : BitVec 4) (reason : Reason) : State :=
  let word : Word := reasonCode reason ++ index
  s.after dest .refused tag word fun x =>
    { x with regs := { x.regs with
        refusal := word
        armcheck :=
          match reason with
          | .invalidDescriptor n => n
          | _ => x.regs.armcheck } }

/-- The state after the happening of a rejected frame that causes no LINK occurrence (R14, steps 1 to 4). The flag
is the one of the cause in LINKFAULT (R15). -/
def State.rejectedAs (s : State) (cause : FrameOutcome) (flag : BitVec 4) (tag : BitVec 4) (index : Byte) : State :=
  let count : Byte := if s.link.linkCount = 255 then 255 else s.link.linkCount + 1
  endHappening
    { s with link := { s.link with
        hold := none
        linkFault := s.link.linkFault ||| flag
        linkCount := count
        prev := { outcome := cause, tag := tag, data := count ++ index } } }

/-- A rejection causes no LINK occurrence: LINK is disarmed, or the mode is not Running (R14, step 5). -/
def State.linkQuiet (s : State) : Prop := (s.src linkId).armed = false ∨ s.mc.mode ≠ .running

/-- A deadline after one count: its remainder falls by one, and at 0 it is Spent (R128, R132). -/
def Deadline.counted : Deadline → Deadline
  | .none => .none
  | .spent => .spent
  | .runningDown n => if n ≤ 1 then .spent else .runningDown (n - 1)

/-- The remainder of a deadline runs out at its next count (R128, R132). -/
def Deadline.due : Deadline → Bool
  | .none => false
  | .spent => false
  | .runningDown n => n ≤ 1

/-- The deadline of a source's field of this many units, as it is loaded (R127, R131). -/
def Deadline.loaded (units ticks : Nat) : Deadline :=
  if units = 0 then .none else .runningDown (units * ticks)

/-- A directed Write of this index would meet a broken hold (R35). -/
def State.brokenFor (s : State) (dest : Dest) (index : Byte) : Bool :=
  match s.link.hold with
  | some h => destDirected dest && h.index == index && h.changed
  | none => false

/-- This many more records raise no JOURNAL occurrence, because the journal has room for them or JOURNAL is disarmed
(R155, R156). -/
def State.calm (s : State) (n : Nat) : Prop :=
  s.jn.unread.length + n ≤ Config.journalLimit ∨ (s.src journalId).armed = false

/-- The state after an event that calls for a record: the record joins at the newest end if it is admitted and there
is room; a full journal loses one record by its overflow policy, and counts the loss (R153, R155, R156). A JOURNAL
occurrence that the loss may call for is not part of this. -/
def State.wrote (s : State) (k : RecordKind) (source : Option SourceId) (detail : Word) : State :=
  let u := s.jn.unread
  let r := s.record k source detail
  if s.recordAdmitted k source then
    if u.length < Config.journalLimit then { s with jn := { s.jn with unread := u ++ [r] } }
    else
      { s with jn := { s.jn with
          lost := if s.jn.lost = 255 then 255 else s.jn.lost + 1
          unread :=
            if s.overwriteOldest then u.drop 1 ++ [r]
            else if k.forced then u.dropLast ++ [r]
            else u } }
  else s

/-- The state after an entry to Lockdown: the mode, the lockdown record, the Lockdown record and the Mode record (R124,
steps 1 to 4). -/
def State.lockedBy (s : State) (cause : BitVec 4) (source : Option SourceId) (second : BitVec 5) : State :=
  let field : BitVec 5 := match source with | some i => sourceBits i | none => 0
  let s1 := { s with mc := { s.mc with
      mode := .lockdown
      lockrec := cause ++ 0#2 ++ field ++ second
      locktick := s.tc.count.extractLsb' 0 16
      causeSeen := false } }
  (s1.wrote .lockdown source (cause.zeroExtend 16)).wrote .mode none (0#6 ++ modeCode s.mc.mode ++ 0#6 ++ 2#2)

/-! ## Invariants -/

/-- What the pins and the bounded collections show between happenings: the stack and the journal within their
limits, OVERRUN and COMPOUND armed, the pins at the effective levels, and ALERT at the alert condition (R78, R91,
R96, R144, R155). -/
structure State.AtRest (s : State) : Prop where
  depth     : s.svc.stack.length ≤ Config.stackLimit
  unread    : s.jn.unread.length ≤ Config.journalLimit
  overrun   : (s.src overrunId).armed = true
  compound  : (s.src compoundId).armed = true
  effective : s.act.effective = s.effectiveWord
  alert     : s.arb.alert = s.alertCondition

/-- The register bits and fields that no write can give another value (R31, R67, R139, R161 to R163). -/
structure State.FieldsLegal (s : State) : Prop where
  zones    : s.regs.zones.getLsbD 0 = false
  policy   : s.regs.policy.extractLsb' 5 3 = 0 ∧ s.regs.policy.extractLsb' 12 4 = 0
  window   : s.regs.policy.extractLsb' 8 4 ≠ 0
  silwin   : s.regs.silwin.extractLsb' 8 8 = 0
  filter   : s.jn.filter &&& ~~~filterBits = 0
  w1       : ∀ i : SourceId, (s.src i).w1.extractLsb' 0 4 = 0
  internal : ∀ i : SourceId, isExternal i = false → keepsFixed i (s.src i).w0 = true
  reaction : ∀ k : SetId, hasIllegalField (s.set k).wordA = false ∧ hasIllegalField (s.set k).wordB = false
  /-- COMPOUND's stored react-when is Never where its reaction set is 0, and AtLatch otherwise (R67, R163). -/
  compound : (s.src compoundId).w1.extractLsb' 7 2 =
    if (s.src compoundId).w1.extractLsb' 9 3 = 0 then 0#2 else 1#2

/-- The link between commands: Ready is idle, LDO is released outside Shifting, a reset bars the link, and the
counts are within their limits (R1, R2, R5, R18, R54). -/
structure State.LinkLegal (s : State) : Prop where
  ready    : s.link.phase = .ready → s.linkIdle
  released : s.link.phase ≠ .shifting → s.link.driving = false ∧ s.link.ldo = none
  shifting : s.link.phase = .shifting → s.link.lselHigh = false
  barred   : s.rst.held = true ∨ s.rst.intervalLeft ≠ 0 → s.link.phase = .barred
  edges    : s.link.edges ≤ Config.edgeLimit
  idle     : s.link.idle < Config.idleLimit

/-- A channel is frozen exactly while some active set gives it Freeze, and its frozen level reads 0 while it is not
frozen (R140). -/
structure State.FreezesLegal (s : State) : Prop where
  marks  : ∀ c : Channel, s.act.frozen.getLsbD c.val = s.someActive c .freeze
  levels : s.act.frozenLevel &&& ~~~s.act.frozen = 0

/-- An armed source's descriptor passes the Arm validation checks (R31, R70, R71). -/
def State.ArmedValid (s : State) : Prop :=
  ∀ i : SourceId, (s.src i).armed = true → armFault i (s.src i) = none

/-- The states of the sources, the pending list and the service stack agree (R39, R79, R83, R86, R87, R96, R109,
R117, R119, R120). -/
structure State.EventsAgree (s : State) : Prop where
  /-- In Configuring nothing is pending, in service or absorbed (R39). -/
  configuring : s.mc.mode = .configuring →
    s.arb.waiting = [] ∧ s.svc.stack = [] ∧ ∀ i : SourceId, s.busy i = false
  /-- A source has an entry in the list exactly while it is Pending (R86). -/
  pending : ∀ i : SourceId, (s.src i).state = .pending ↔ i ∈ s.arb.waiting.map (·.source)
  /-- The list holds at most one entry for each source, and is in order (R86, R87). -/
  ordered : s.arb.waiting.Pairwise fun a b => a.source ≠ b.source ∧ s.standsBefore a.source b.source = true
  /-- A source has an entry on the stack exactly while it is Serving (R96). -/
  serving : ∀ i : SourceId, (s.src i).state = .serving ↔ i ∈ s.svc.stack.map (·.source)
  /-- Each stack entry's pair is strictly greater than that of every entry below it (R96). -/
  nested : s.svc.stack.Pairwise fun a b => s.pairAbove a.source b.source = true
  /-- Only a COMPOUND entry can be unannounced (R96). -/
  announced : ∀ e ∈ s.svc.stack, e.source ≠ compoundId → e.announced = true
  /-- COMPOUND's repeat count is 0 (R109, R117). -/
  norepeat : (s.src compoundId).repeatCount = 0
  /-- COMPOUND is Quiet or Serving (R119). -/
  compound : (s.src compoundId).state = .quiet ∨ (s.src compoundId).state = .serving
  /-- A source holds a latch-sequence position exactly while it is Pending or Absorbed (R79, R83). -/
  latched : ∀ i : SourceId, (s.src i).latch.isSome = true ↔
    (s.src i).state = .pending ∨ (s.src i).state = .absorbed
  /-- Every position held comes before the next one to be taken, and no two sources hold the same one (R83). -/
  positions : ∀ i : SourceId, ∀ l, (s.src i).latch = some l → l.position < s.arb.nextPosition
  distinct : ∀ i j : SourceId, i ≠ j → ∀ l m, (s.src i).latch = some l → (s.src j).latch = some m →
    l.position ≠ m.position
  /-- The occurrence count is at least 1 exactly while the source is Pending or Absorbed (R79). -/
  counts : ∀ i : SourceId, (s.src i).count ≠ 0 ↔ (s.src i).state = .pending ∨ (s.src i).state = .absorbed
  /-- The repeat count is 0 except while the source is Serving (R79). -/
  repeats : ∀ i : SourceId, (s.src i).repeatCount ≠ 0 → (s.src i).state = .serving
  /-- Outside Lockdown a source is Absorbed exactly while it is the second source of a COMPOUND entry on the stack
  (R120). -/
  absorbed : s.mc.mode = .running → ∀ i : SourceId, (s.src i).state = .absorbed ↔
    compoundId ∈ s.svc.stack.map (·.source) ∧ i = sourceOf (s.svc.comprec0.extractLsb' 0 5)

/-- All the invariants together. -/
structure State.Legal (s : State) : Prop where
  atRest  : s.AtRest
  fields  : s.FieldsLegal
  link    : s.LinkLegal
  freezes : s.FreezesLegal
  armed   : s.ArmedValid
  events  : s.EventsAgree

/-- A tick of this state in Running at which no line's source has an occurrence, no channel joins the mismatch set and
no frame or reset interval ends: what it does is to count (R93). -/
structure State.CountingTick (s : State) (lines : BitVec 24) (readback : Word) : Prop where
  legal   : s.Legal
  held    : s.rst.held = false
  left    : s.rst.intervalLeft = 0
  phase   : s.link.phase ≠ .shifting
  running : s.mc.mode = .running
  silent  : ∀ k : LineId, (sampleInputs lines readback s).lineOccurs (s.changedLines lines) k = false
  agrees  : (sampleInputs lines readback s).joining = 0

/-! ## What Lockdown and the seal keep -/

/-- Two states agree on what Lockdown keeps: the sources with their descriptors and marks, the lists, stack and
records, the deadlines, the reactions and output registers, the policy registers and the seal, the lockdown record
and the kind filter (R41, R126). -/
structure State.SameEvidence (s t : State) : Prop where
  srcs    : t.srcs = s.srcs
  waiting : t.arb.waiting = s.arb.waiting
  svc     : t.svc = s.svc
  dl      : t.dl = s.dl
  sets    : t.act.sets = s.act.sets
  frozen  : t.act.frozen = s.act.frozen ∧ t.act.frozenLevel = s.act.frozenLevel
  levels  : t.act.operate = s.act.operate ∧ t.act.safe = s.act.safe ∧ t.act.rbcheck = s.act.rbcheck
  policy  : t.regs.zones = s.regs.zones ∧ t.regs.policy = s.regs.policy ∧ t.regs.silwin = s.regs.silwin
  guards  : t.regs.sealed = s.regs.sealed ∧ t.regs.armcheck = s.regs.armcheck
  lockrec : t.mc.lockrec = s.mc.lockrec ∧ t.mc.locktick = s.mc.locktick
  filter  : t.jn.filter = s.jn.filter

/-- Two states agree on what the seal protects: descriptor words W0 to W2, reaction-set words, ZONES, POLICY,
SILWIN, SAFE and RBCHECK (R29). -/
structure State.SameProtected (s t : State) : Prop where
  words  : ∀ i : SourceId, (t.src i).w0 = (s.src i).w0 ∧ (t.src i).w1 = (s.src i).w1 ∧ (t.src i).w2 = (s.src i).w2
  sets   : ∀ k : SetId, (t.set k).wordA = (s.set k).wordA ∧ (t.set k).wordB = (s.set k).wordB
  policy : t.regs.zones = s.regs.zones ∧ t.regs.policy = s.regs.policy ∧ t.regs.silwin = s.regs.silwin
  levels : t.act.safe = s.act.safe ∧ t.act.rbcheck = s.act.rbcheck

end Sys2Proof.Machine
end

