-- ==== Sys2Proof/Certificates/Slice0/Obligations.lean ====
section
/-! DEFINITION. The statements for the provers. They are grouped by chapter of the manual. In a statement about a
frame command, `linkIdle` and `hears` say that the frame reaches the node and passes the admission checks, and the
next state is written out as an update of the state before, so that everything not named there is unchanged. -/

open Sys2Proof Sys2Proof.Machine

/-! ## The step and the resets -/

/-- A step takes the command at the front of the queue and executes it on the state with the queue's rest. The queue
is the model's choice (notes/assumptions/1.md); that happenings are processed one at a time, each whole, is the
manual's (00_scope, Block Overview). -/
def Obligations.StepRunsFrontCommand : Prop :=
  ∀ (c : Instr) (rest : List Instr) (s : State),
    step { s with pending := c :: rest } = exec c { s with pending := rest }

/-- Either hard reset leaves the values of the tables of section 3.5 and of the register map (11.2), holds the link
Barred with LDO released, and releases ALERT. The node ID is latched at the release, and is no part of this. -/
def Obligations.HardResetLeavesTableValues : Prop :=
  ∀ (s : State) (c : Instr), isHardReset c = true →
    ∃ t, exec c s = .next t
      ∧ t.rst.held = true ∧ t.link.phase = .barred ∧ t.link.driving = false ∧ t.link.ldo = none
      ∧ t.link.hold = none ∧ t.link.prev.outcome = .origin ∧ t.link.prev.tag = 0
      ∧ t.arb.alert = false ∧ t.mc.mode = .configuring ∧ t.regs.sealed = false ∧ t.mc.causeSeen = false
      ∧ t.mc.resetCause = (if c = .powerOnReset ∨ s.rst.powerOnSeen = true then .powerOn else .pin)
      ∧ t.tc.count = 0 ∧ t.tc.snapshot = 0 ∧ t.scan.started = false
      ∧ t.arb.waiting = [] ∧ t.svc.stack = [] ∧ t.dl.watchdog = none ∧ t.jn.unread = [] ∧ t.jn.lost = 0
      ∧ t.act.counters = Vector.replicate 16 0 ∧ t.act.moved = 0
      ∧ (∀ i : SourceId, (t.src i).repeatCount = 0 ∧ (t.src i).detail = 0 ∧ (t.src i).latch = none)
      ∧ (∀ r ∈ ([.refusal, .armcheck, .linkfault, .linkcount, .zones, .silwin, .maskLo, .maskHi, .armedLo,
          .stack, .stack2, .claimrec 0, .claimrec 1, .claimrec 2, .claimrec 3, .pendLo, .pendHi, .comprec0,
          .comprec1, .lockrec, .locktick, .operate, .safe, .effective, .rbcheck, .active, .mismatchdet,
          .mismatchset, .frozen, .frozenlvl, .jwin 0, .jwin 1, .jwin 2, .jwin 3, .jstat, .timeLo] : List Reg),
          readReg t r = 0)
      ∧ readReg t .policy = 0x0301 ∧ readReg t .jfilter = 0x038E ∧ readReg t .armedHi = 0x1200
      ∧ (∀ k : SetId, ∀ wordB : Bool, readReg t (.react k wordB) = 0)
      ∧ (∀ k : SetId, (t.set k).binding = none)
      ∧ (∀ i : SourceId, isExternal i = true → readReg t (.desc i 0) = 0)
      ∧ (∀ i : SourceId, readReg t (.desc i 1) = 0 ∧ readReg t (.desc i 2) = 0)
      ∧ ([24, 25, 26, 27, 28, 29, 30, 31] : List SourceId).map (fun i => readReg t (.desc i 0))
          = [0xF800, 0xF908, 0xFA00, 0xFB00, 0xFC18, 0xFD08, 0xFE00, 0xFF10]
      ∧ (∀ i : SourceId, readReg t (.desc i 3) = if i = overrunId ∨ i = compoundId then 0x2008 else 0)

/-- The release of a hard reset latches the node ID from the straps, shows it in IDENT and in the Origin record,
sets the reset cause, and starts the interval of ten ticks (R49, R52, R53); without a hard reset the straps change
nothing. -/
def Obligations.ReleaseLatchesIdentityAndCause : Prop :=
  ∀ (s : State) (ida idb : BitVec 2),
    (s.rst.held = true →
      ∃ t, exec (.hardResetRelease ida idb) s = .next t
        ∧ t.mc.nodeId.toNat = 4 * idb.toNat + ida.toNat
        ∧ t = { s with
            mc := { s.mc with
              nodeId := t.mc.nodeId
              resetCause := if s.rst.powerOnSeen then .powerOn else .pin }
            link := { s.link with
              prev := { outcome := .origin, tag := 0, data := 1#4 ++ t.mc.nodeId ++ 0x6E#8 } }
            rst := { s.rst with held := false, intervalLeft := 10 } }
        ∧ readReg t .ident = 1#4 ++ t.mc.nodeId ++ 0x6E#8)
    ∧ (s.rst.held = false → exec (.hardResetRelease ida idb) s = .next s)

/-- The reset interval lasts ten ticks: after a hard reset and its release the link is Barred through the first nine
ticks, and at the tenth it becomes Ready if LSEL is high and stays Barred otherwise; the tick counter counts the
ticks, and the reset cause is power-on exactly if power-on reset was asserted since the last completed interval
(R52, R53). RESET_INTERVAL_END is the end of the interval alone. -/
def Obligations.ResetIntervalLastsTenTicks : Prop :=
  (∀ (s : State) (c : Instr) (ida idb : BitVec 2) (ticks : List (BitVec 24 × Word)),
    isHardReset c = true → ticks.length ≤ 10 →
      ∃ t, execAll (c :: .hardResetRelease ida idb :: ticks.map fun p => .scanTick p.1 p.2) s = .next t
        ∧ t.tc.count = BitVec.ofNat 32 ticks.length
        ∧ t.rst.held = false ∧ t.rst.intervalLeft = 10 - ticks.length
        ∧ t.link.phase = (if ticks.length = 10 ∧ s.link.lselHigh = true then .ready else .barred)
        ∧ t.mc.mode = .configuring ∧ t.arb.alert = false ∧ readReg t .effective = 0
        ∧ t.mc.resetCause = (if c = .powerOnReset ∨ s.rst.powerOnSeen = true then .powerOn else .pin)
        ∧ t.rst.powerOnSeen
            = (if ticks.length = 10 then false else decide (c = .powerOnReset ∨ s.rst.powerOnSeen = true)))
  ∧ (∀ s : State, s.rst.held = false → s.rst.intervalLeft ≠ 0 →
      exec .resetIntervalEnd s = .next
        { s with
          rst := { s.rst with intervalLeft := 0, powerOnSeen := false }
          link :=
            if s.link.lselHigh then
              { s.link with
                phase := .ready, edges := 0, shift := 0, idle := 0, driving := false, ldo := none }
            else s.link })
  ∧ (∀ s : State, s.rst.held = true ∨ s.rst.intervalLeft = 0 → exec .resetIntervalEnd s = .next s)

/-! ## The link -/

/-- The falls and rises of LSEL move the link as the table of R1 says, and change nothing else, where no frame with
an edge ends. -/
def Obligations.LselMovesTheLink : Prop :=
  ∀ s : State,
    (s.link.phase = .ready → exec .lselFall s = .next { s with link := { s.link with
        lselHigh := false, phase := .shifting, edges := 0, shift := 0, idle := 0, driving := false
        ldo := none } })
    ∧ (s.link.phase ≠ .ready → exec .lselFall s = .next { s with link := { s.link with lselHigh := false } })
    ∧ (s.link.phase = .spent ∨ (s.link.phase = .shifting ∧ s.link.edges = 0)
        ∨ (s.link.phase = .barred ∧ s.rst.held = false ∧ s.rst.intervalLeft = 0) →
        exec .lselRise s = .next { s with link := { s.link with
          lselHigh := true, phase := .ready, edges := 0, shift := 0, idle := 0, driving := false
          ldo := none } })
    ∧ (s.link.phase = .ready ∨ (s.link.phase = .barred ∧ (s.rst.held = true ∨ s.rst.intervalLeft ≠ 0)) →
        exec .lselRise s = .next { s with link := { s.link with lselHigh := true } })

/-- A rising edge in Shifting counts, to 49 at most, takes its bit while fewer than 48 have come, and sets the idle
count to zero; at the 8th the node decides whether it drives. A falling edge presents the next receipt bit of a
driving node, and after the 48th edge releases LDO. Edges at any other time change nothing (R1, R2, R17, R18). -/
def Obligations.ClockEdgesShiftAndPresent : Prop :=
  ∀ (s : State) (ldi : Bool),
    (s.link.phase ≠ .shifting → exec (.lckRisingEdge ldi) s = .next s ∧ exec .lckFallingEdge s = .next s)
    ∧ (s.link.phase = .shifting → s.link.edges ≠ 7 →
        exec (.lckRisingEdge ldi) s = .next { s with link := { s.link with
          edges := min 49 (s.link.edges + 1)
          shift := if s.link.edges < 48 then (s.link.shift.extractLsb' 0 47) ++ BitVec.ofBool ldi
                   else s.link.shift
          idle := 0 } })
    ∧ (s.link.phase = .shifting → s.link.edges = 7 →
        ∃ t, exec (.lckRisingEdge ldi) s = .next t
          ∧ t.link.edges = 8 ∧ t.link.shift = (s.link.shift.extractLsb' 0 47) ++ BitVec.ofBool ldi
          ∧ t.link.idle = 0
          ∧ (t.link.driving = true ↔
              t.link.shift.extractLsb' 6 2 = 0 ∧ t.link.shift.extractLsb' 0 4 = s.mc.nodeId ∧ s.mc.nodeId ≠ 0)
          ∧ t.link.receipt = (if t.link.driving then s.receiptWord else s.link.receipt)
          ∧ t = { s with link := { s.link with
              edges := 8, shift := t.link.shift, idle := 0, driving := t.link.driving
              receipt := t.link.receipt } })
    ∧ (s.link.phase = .shifting → s.link.driving = false → exec .lckFallingEdge s = .next s)
    ∧ (s.link.phase = .shifting → s.link.driving = true →
        exec .lckFallingEdge s = .next { s with link := { s.link with
          ldo := if s.link.edges < 48 then some (s.link.receipt.getLsbD (47 - s.link.edges)) else none
          driving := decide (s.link.edges < 48) } })

/-- During a frame whose first byte names the node, the bit that stands on LDO when the host samples at its (9 + n)th
rising edge is bit 39 - n of the receipt that the node built, for the 40 bits in turn; during any other frame the
node leaves LDO released (R17, R18). -/
def Obligations.HostReadsTheReceipt : Prop :=
  ∀ (s : State) (f : Frame48) (n : Nat), s.linkIdle →
    (s.drives (f.extractLsb' 40 8) = true → n < 40 →
      ∃ t, execAll ([.lselFall] ++ ((frameBits f 48).take (8 + n)).flatMap clockBit) s = .next t
        ∧ t.link.ldo = some (s.receiptWord.getLsbD (39 - n)))
    ∧ (n < 8 →
      ∃ t, execAll ([.lselFall] ++ ((frameBits f 48).take n).flatMap clockBit) s = .next t ∧ t.link.ldo = none)
    ∧ (s.drives (f.extractLsb' 40 8) = false → n ≤ 48 →
      ∃ t, execAll ([.lselFall] ++ ((frameBits f 48).take n).flatMap clockBit) s = .next t ∧ t.link.ldo = none)

/-- The five bytes of the receipt (R19). -/
def Obligations.ReceiptLayout : Prop :=
  ∀ s : State, s.AtRest →
    s.receiptWord.extractLsb' 38 2
        = (match s.mc.mode with | .configuring => 0 | .running => 1 | .lockdown => 2)
    ∧ s.receiptWord.getLsbD 37 = s.alertCondition
    ∧ s.receiptWord.getLsbD 36 = (s.link.linkFault.getLsbD 0 || s.link.linkFault.getLsbD 1
        || s.link.linkFault.getLsbD 2 || s.link.linkFault.getLsbD 3)
    ∧ s.receiptWord.extractLsb' 32 4 = s.link.prev.tag
    ∧ s.receiptWord.extractLsb' 28 4 = outcomeCode s.link.prev.outcome
    ∧ (s.receiptWord.extractLsb' 25 3).toNat = s.svc.stack.length
    ∧ (s.receiptWord.getLsbD 24 = true ↔ s.jn.unread ≠ [])
    ∧ s.receiptWord.extractLsb' 8 16 = s.link.prev.data
    ∧ s.receiptWord.extractLsb' 0 8
        = crc8 [s.receiptWord.extractLsb' 32 8, s.receiptWord.extractLsb' 24 8,
            s.receiptWord.extractLsb' 16 8, s.receiptWord.extractLsb' 8 8]

/-- A null frame changes nothing at all (R4). The third clause says what a frame without an edge becomes where the idle
timeout ends it, a Length fault; it runs the IDLE_TIMEOUT command whatever the idle count, which is the model's choice
(notes/assumptions/5.md), and no clause counts the idle ticks that a null frame may last. -/
def Obligations.NullFrameChangesNothing : Prop :=
  ∀ s : State, s.linkIdle →
    exec .nullFrame s = .next s
    ∧ execAll [.lselFall, .lselRise] s = .next s
    ∧ (∃ t, execAll [.lselFall, .idleTimeout] s = .next t
        ∧ t.link.phase = .spent ∧ t.link.prev.outcome = .rejectedLength)

/-- The idle timeout ends a frame in progress: the link is Spent, LDO is released and the frame is a Length fault,
whatever its edges were; the tick that brings the idle count to 20 does the same after its own happening, and an
earlier tick only counts (R5). -/
def Obligations.IdleTimeoutEndsTheFrame : Prop :=
  (∀ s : State, s.link.phase = .shifting → s.linkQuiet →
      exec .idleTimeout s = .next
        (State.rejectedAs
          { s with link := { s.link with
              phase := .spent, edges := 0, shift := 0, idle := 0, driving := false, ldo := none } }
          .rejectedLength 1 0 0))
  ∧ (∀ s : State, s.link.phase ≠ .shifting → exec .idleTimeout s = .next s)
  ∧ (∀ (s : State) (lines : BitVec 24) (readback : Word),
      s.link.phase = .shifting → s.rst.held = false → s.rst.intervalLeft = 0 →
        (s.link.idle < 19 → ∃ t, exec (.scanTick lines readback) s = .next t
          ∧ t.link.phase = .shifting ∧ t.link.idle = s.link.idle + 1 ∧ t.link.prev = s.link.prev)
        ∧ (s.link.idle = 19 → ∃ t, exec (.scanTick lines readback) s = .next t
          ∧ t.link.phase = .spent ∧ t.link.driving = false ∧ t.link.ldo = none
          ∧ t.link.prev.outcome = .rejectedLength ∧ t.link.prev.tag = 0
          ∧ t.link.prev.data = t.link.linkCount ++ 0#8))

/-- What a frame is rejected for, and what the rejection records where it causes no LINK occurrence: the first of
Length, Check, Form and, at an addressed node, Target that fails. The Form check fails in the cases of its table, read
from the bits of the frame; the Target check fails at an index that is not implemented, and where the access class of
the register at the index does not allow the operation: a Write or a Hold of a read-only register, a Read or a Hold of
a write-only command (R8 to R11, R13 to R16). -/
def Obligations.RejectionsAreRecorded : Prop :=
  ∀ (s : State) (m : Nat) (f : Frame48), s.linkIdle → s.linkQuiet →
    let r := parseFrame f
    let x := s.sampled m f
    let n := (f.extractLsb' 32 8).toNat
    let op := f.extractLsb' 44 2
    (m ≠ 0 → m ≠ 48 → exec (.frameRejection m f) s = .next (x.rejectedAs .rejectedLength 1 0 0))
    ∧ (m = 48 → crc8 (bytes5 (f.extractLsb' 8 40)) ≠ f.extractLsb' 0 8 →
        exec (.frameRejection m f) s = .next (x.rejectedAs .rejectedCheck 2 r.tag r.index))
    ∧ (m = 48 → crc8 (bytes5 (f.extractLsb' 8 40)) = f.extractLsb' 0 8 → r.formFault = true →
        exec (.frameRejection m f) s = .next (x.rejectedAs .rejectedForm 4 r.tag r.index))
    ∧ (m = 48 → crc8 (bytes5 (f.extractLsb' 8 40)) = f.extractLsb' 0 8 → r.formFault = false →
        s.addressed r = true → r.op ≠ 0 → targetOf r = none →
        exec (.frameRejection m f) s = .next (x.rejectedAs .rejectedTarget 8 r.tag r.index))
    ∧ (r.formFault = true ↔
        f.extractLsb' 46 2 = 3
        ∨ f.extractLsb' 8 4 ≠ 0
        ∨ ((f.extractLsb' 46 2 = 1 ∨ f.extractLsb' 46 2 = 2) ∧ f.extractLsb' 44 2 ≠ 2)
        ∨ (f.extractLsb' 46 2 = 2 ∧ f.extractLsb' 40 4 ≠ 0)
        ∨ (f.extractLsb' 46 2 = 1 ∧ f.extractLsb' 40 4 = 0)
        ∨ (f.extractLsb' 46 2 = 0 ∧ f.extractLsb' 40 4 = 0)
        ∨ (f.extractLsb' 44 2 = 0 ∧ f.extractLsb' 16 24 ≠ 0))
    ∧ (op ≠ 0 → (targetOf r = none ↔
        (n = 0x1F ∨ (0x2B ≤ n ∧ n ≤ 0x2F) ∨ n = 0x36 ∨ n = 0x37 ∨ (0x3A ≤ n ∧ n ≤ 0x3F) ∨ 0xCE ≤ n)
        ∨ (op ≠ 1 ∧
            (n = 0x00 ∨ n = 0x01 ∨ n = 0x03 ∨ n = 0x04 ∨ (0x0E ≤ n ∧ n ≤ 0x10) ∨ (0x12 ≤ n ∧ n ≤ 0x17)
              ∨ (0x19 ≤ n ∧ n ≤ 0x1E) ∨ n = 0x22 ∨ n = 0x23 ∨ n = 0x25 ∨ (0x28 ≤ n ∧ n ≤ 0x2A)
              ∨ (0x30 ≤ n ∧ n ≤ 0x34) ∨ n = 0x38 ∨ n = 0x39 ∨ (0x40 ≤ n ∧ n < 0xC0 ∧ n % 4 = 3)))
        ∨ (op ≠ 2 ∧ (n = 0x02 ∨ n = 0x0C ∨ n = 0x0D ∨ n = 0x11 ∨ n = 0x18 ∨ n = 0x26))))

/-- A rejection in Running, for whichever check, at a node with LINK armed is an occurrence of LINK with the outcome
code, 8 to 11, as detail word: a Quiet LINK latches normally, whatever the stack holds, a Pending one is counted, and
a Serving one keeps the occurrence back if it repeats and discards it if it does not (R14, R77, R81, R84, R85). -/
def Obligations.RejectionRaisesLink : Prop :=
  ∀ (s : State) (m : Nat) (f : Frame48) (code : Word),
    let r := parseFrame f
    let x := s.src linkId
    let summed := crc8 (bytes5 (f.extractLsb' 8 40)) = f.extractLsb' 0 8
    s.Legal → s.linkIdle → s.mc.mode = .running →
    (code = 8 ∧ m ≠ 0 ∧ m ≠ 48)
      ∨ (code = 9 ∧ m = 48 ∧ ¬summed)
      ∨ (code = 10 ∧ m = 48 ∧ summed ∧ r.formFault = true)
      ∨ (code = 11 ∧ m = 48 ∧ summed ∧ r.formFault = false ∧ s.addressed r = true ∧ r.op ≠ 0 ∧ targetOf r = none) →
    (x.state = .quiet → ∃ t, exec (.frameRejection m f) s = .next t
        ∧ outcomeCode t.link.prev.outcome = code.extractLsb' 0 4
        ∧ (t.src linkId).state = .pending ∧ (t.src linkId).count = 1 ∧ (t.src linkId).detail = code
        ∧ t.mc.mode = .running ∧ t.svc.stack = s.svc.stack)
    ∧ (x.state = .pending → ∃ t, exec (.frameRejection m f) s = .next t
        ∧ outcomeCode t.link.prev.outcome = code.extractLsb' 0 4 ∧ t.arb.waiting = s.arb.waiting
        ∧ t.srcs = (s.setSrc linkId { x with
            count := if x.count = 255 then 255 else x.count + 1
            detail := code }).srcs)
    ∧ (x.state = .serving → ∃ t, exec (.frameRejection m f) s = .next t
        ∧ outcomeCode t.link.prev.outcome = code.extractLsb' 0 4 ∧ t.arb.waiting = s.arb.waiting ∧ t.svc = s.svc
        ∧ (x.w1.getLsbD 6 = true → t.srcs = (s.setSrc linkId { x with
            repeatCount := if x.repeatCount = 255 then 255 else x.repeatCount + 1
            detail := code }).srcs)
        ∧ (x.w1.getLsbD 6 = false → t.srcs = s.srcs))

/-- A frame that does not address the node leaves everything as it was, and a frame that addresses it is recorded
with its tag. A directed frame addresses the node whose ID it names, a zone frame every node with the zone's bit in
ZONES, a broadcast every node (R12). Both clauses run the command FRAME_DROPPED; that it is the whole frame, judged by
every admission check, so that the second clause speaks of a frame that is not dropped at all and is recorded by R14 or
R21, is the model's choice (notes/assumptions/4.md and 6.md). -/
def Obligations.UnaddressedFramesLeaveNoTrace : Prop :=
  ∀ (s : State) (dest : Dest) (op : FrameOp) (index : Byte) (data : Word) (tag : BitVec 4),
    s.linkIdle → wellFormed (.frameDropped dest op index data tag) = true →
      ((match dest with
        | .directed id => id ≠ s.mc.nodeId ∨ s.mc.nodeId = 0
        | .zone z => s.regs.zones.getLsbD z.toNat = false
        | .broadcast => False) →
        exec (.frameDropped dest op index data tag) s = .next s)
      ∧ ((match dest with
        | .directed id => id = s.mc.nodeId
        | .zone z => s.regs.zones.getLsbD z.toNat = true
        | .broadcast => True) →
        ∃ t, exec (.frameDropped dest op index data tag) s = .next t ∧ t.link.prev.tag = tag)

/-- While a reset bars the link every frame is ignored in whole, and only the level of LSEL is followed (R1, R54). -/
def Obligations.BarredLinkIgnoresFrames : Prop :=
  ∀ (s : State) (c : Instr) (r : Request), s.link.phase = .barred →
    s.rst.held = true ∨ s.rst.intervalLeft ≠ 0 → frameOf c = some r →
      exec c s = .next { s with link := { s.link with lselHigh := true } }
      ∧ execAll (wireFrame r.frame) s = .next { s with link := { s.link with lselHigh := true } }

/-- A frame command is its frame on the wires: LSEL falls, 48 clocks carry the bits, and LSEL rises. That the model has
both, and that a frame command takes no tick, is its own choice (notes/assumptions/4.md). -/
def Obligations.FrameCommandsAreTheirWireEvents : Prop :=
  (∀ (s : State) (f : Frame48), s.linkIdle → execAll (wireFrame f) s = exec (.frameRejection 48 f) s)
  ∧ ∀ (s : State) (c : Instr) (r : Request), s.linkIdle → frameOf c = some r →
      execAll (wireFrame r.frame) s = exec c s

/-- The frame of every frame command carries the command's fields through the wire and passes the Check check, and
that of a well-formed one passes the Form check (R6, R7, R10, R11). -/
def Obligations.FramesCarryTheirFields : Prop :=
  ∀ (c : Instr) (r : Request), frameOf c = some r →
    parseFrame r.frame = r ∧ r.crcOk = true ∧ (wellFormed c = true → r.formFault = false)

/-! ## Register access -/

/-- A Probe changes nothing but the previous-frame record and, in Running, the watchdog; any hold ends; it is
accepted in every mode and whatever the seal (R23). The receipt register, which the model keeps after the frame
(notes/assumptions/8.md), holds what the node sent during it. -/
def Obligations.ProbeOnlyRecordsAndFeeds : Prop :=
  ∀ (s : State) (tag : BitVec 4), s.AtRest → s.linkIdle → s.mc.nodeId ≠ 0 →
    exec (.probe s.mc.nodeId tag) s = .next
      { s with
        link := { s.link with
          receipt := s.receiptWord, hold := none, prev := { outcome := .done, tag := tag, data := 0 } }
        dl := { s.dl with
          watchdog :=
            if s.mc.mode = .running then
              (if (s.regs.silwin.extractLsb' 0 8).toNat = 0 then none
               else some ((s.regs.silwin.extractLsb' 0 8).toNat * 100))
            else s.dl.watchdog } }

/-- A Hold returns the register's value and places the hold. The held Write that follows is answered Hold broken,
with the register's present value and nothing written, exactly if the changed flag is set; with the flag clear it goes
on to the ordinary checks, just as without a hold. A tick that does not time a frame out, and an expiry, sets the flag
exactly if it gives the held register another value, and of the registers that can be held it can change only the mask
registers and MISMATCHDET (R34, R35); that this holds in Lockdown too is the model's choice (notes/assumptions/16.md). -/
def Obligations.HoldGuardsTheNextWrite : Prop :=
  (∀ (s : State) (index : Byte) (data : Word) (tag : BitVec 4) (r : Reg),
    s.linkIdle → s.mc.nodeId ≠ 0 → regAt index = some r → holdable r = true →
      exec (.hold s.mc.nodeId index data tag) s = .next
        (let t := s.after (.directed s.mc.nodeId) .done tag (readReg s r) id
         { t with link := { t.link with hold := some { index := index, changed := false } } }))
  ∧ (∀ (s : State) (c : Instr) (index : Byte) (data : Word) (tag : BitVec 4) (r : Reg) (h : HoldRecord),
    s.linkIdle → s.mc.nodeId ≠ 0 → frameOf c = some (request (.directed s.mc.nodeId) .write index data tag) →
    regAt index = some r → r.access = .readWrite →
    s.link.hold = some h → h.index = index → h.changed = true →
      exec c s = .next (s.after (.directed s.mc.nodeId) .holdBroken tag (readReg s r) id))
  ∧ (∀ (s : State) (c : Instr) (index : Byte) (data : Word) (tag : BitVec 4) (h : HoldRecord),
    s.linkIdle → s.mc.nodeId ≠ 0 → frameOf c = some (request (.directed s.mc.nodeId) .write index data tag) →
    s.link.hold = some h → (h.index = index → h.changed = false) →
      exec c s = exec c { s with link := { s.link with hold := none } }
      ∧ ∃ t, exec c s = .next t ∧ t.link.prev.outcome ≠ .holdBroken ∧ t.link.hold = none)
  ∧ (∀ (s : State) (c : Instr) (r : Reg) (h : HoldRecord),
    (∃ lines readback, c = .scanTick lines readback) ∨ c = .serviceDeadlineExpiry ∨ c = .nestedOverrun
      ∨ (∃ i, c = .claimDeadlineExpiry i) ∨ c = .watchdogExpiry →
    (s.link.phase = .shifting → s.link.idle < 19) →
    s.link.hold = some h → regAt h.index = some r → r.access = .readWrite →
      ∃ t, exec c s = .next t
        ∧ t.link.hold = some { index := h.index, changed := h.changed || readReg t r != readReg s r }
        ∧ (r ≠ .maskLo → r ≠ .maskHi → r ≠ .mismatchdet → readReg t r = readReg s r))

/-- Every refused write, and a Read of CLAIM in Lockdown, does what R32 and R33 say and nothing else: REFUSAL, the
check number for an invalid descriptor, the record, and the watchdog. A write is refused as Mode where the mode's column
of R28 says so, then as Sealed where the seal protects the register (R29), and then for the first of the register's own
checks that fails (R30, R31, R36, R72, R73, R105, R110); an invalid descriptor carries the number of the first of the ten
Arm validation checks that it fails (R71). -/
def Obligations.RefusalsOnlyLeaveTheirReason : Prop :=
  (∀ (s : State) (c : Instr) (dest : Dest) (index : Byte) (data : Word) (tag : BitVec 4) (r : Reg)
      (reason : Reason),
    s.linkIdle → s.hears dest = true → frameOf c = some (request dest .write index data tag) →
    regAt index = some r → r.access ≠ .readOnly → s.brokenFor dest index = false →
    writeRefusal s r data = some reason →
      exec c s = .next (s.refusedAs dest index tag reason))
  ∧ (∀ (s : State) (data : Word) (tag : BitVec 4),
    s.linkIdle → s.mc.nodeId ≠ 0 → s.mc.mode = .lockdown →
      exec (.claim s.mc.nodeId data tag) s = .next (s.refusedAs (.directed s.mc.nodeId) 0x10 tag .mode))
  ∧ (∀ (s : State) (r : Reg) (data : Word), r.access ≠ .readOnly →
      (writeRefusal s r data = some .mode ↔
        (r = .action ∧ ((data = 1 ∧ s.mc.mode ≠ .configuring) ∨ (data = 2 ∧ s.mc.mode ≠ .running)
            ∨ (data = 3 ∧ s.mc.mode ≠ .lockdown) ∨ (data = 4 ∧ s.mc.mode = .lockdown)
            ∨ (data = 6 ∧ s.mc.mode = .running)))
        ∨ (r = .raise ∧ s.mc.mode ≠ .running)
        ∨ (s.mc.mode ≠ .configuring ∧ ∃ w, r = .desc compoundId w ∨ r = .desc overrunId w)
        ∨ (s.mc.mode = .lockdown ∧ r ≠ .action ∧ r ≠ .raise ∧ r ≠ .linkfault ∧ r ≠ .linkcount
            ∧ r ≠ .mismatchdet))
      ∧ (writeRefusal s r data = some .sealed ↔
        writeRefusal s r data ≠ some .mode ∧ s.regs.sealed = true
        ∧ ((∃ i w, r = .desc i w) ∨ (∃ k wordB, r = .react k wordB) ∨ r = .zones ∨ r = .policy ∨ r = .safe
            ∨ r = .silwin ∨ r = .rbcheck ∨ r = .disarm))
      ∧ (writeRefusal s r data ≠ some .mode → writeRefusal s r data ≠ some .sealed →
        let named := sourceOf (data.extractLsb' 0 5)
        let busy (i : SourceId) : Prop :=
          (s.src i).state = .pending ∨ (s.src i).state = .serving ∨ (s.src i).state = .absorbed
        (r = .action → writeRefusal s r data =
          if data = 0 ∨ 8 < data.toNat then some .unknownAction
          else if data = 2 ∧ ¬(s.svc.stack = [] ∧ s.arb.waiting = []) then some .engineBusy
          else if (data = 3 ∨ data = 6) ∧ s.mc.mode = .lockdown ∧ s.mc.causeSeen = false then some .causeUnseen
          else none)
        ∧ (r = .zones → writeRefusal s r data = if data.getLsbD 0 = true then some .field else none)
        ∧ (r = .policy → writeRefusal s r data =
          if data.extractLsb' 5 3 ≠ 0 ∨ data.extractLsb' 12 4 ≠ 0 ∨ data.extractLsb' 8 4 = 0 then some .field
          else none)
        ∧ (r = .silwin → writeRefusal s r data = if data.extractLsb' 8 8 ≠ 0 then some .field else none)
        ∧ (r = .linkfault → writeRefusal s r data = if data.extractLsb' 4 12 ≠ 0 then some .field else none)
        ∧ (r = .jfilter → writeRefusal s r data = if data &&& 0xFC71 ≠ 0 then some .field else none)
        ∧ (r = .arm → writeRefusal s r data =
          if data.extractLsb' 5 11 ≠ 0 then some .field
          else if (s.src named).state ≠ .disarmed then none
          else (armFault named (s.src named)).map .invalidDescriptor)
        ∧ (r = .disarm → writeRefusal s r data =
          if data.extractLsb' 5 11 ≠ 0 then some .field
          else if named = compoundId ∨ named = overrunId then some .notArmable
          else if busy named then some .sourceBusy
          else none)
        ∧ (r = .complete → writeRefusal s r data =
          if data.extractLsb' 5 11 ≠ 0 then some .field
          else match s.svc.stack with
            | [] => some .stackEmpty
            | top :: _ =>
              if top.source ≠ named then some .notTop
              else if top.source = compoundId ∧ top.announced = false then some .notAnnounced
              else none)
        ∧ (r = .raise → writeRefusal s r data =
          if (s.src hostraiseId).state = .disarmed then some .disarmed else none)
        ∧ (r = .release → writeRefusal s r data =
          if data = 0 ∨ 7 < data.toNat then some .field
          else if ∃ i : SourceId, busy i ∧ i ∈ (s.set (setOf data.toNat)).binding.getD [] then some .stillBound
          else none)
        ∧ (∀ k wordB, r = .react k wordB → writeRefusal s r data =
          if ∃ c : Fin 8, data.extractLsb' (2 * c.val) 2 = 3 then some .field
          else if (s.set k).binding ≠ none then some .stillBound
          else none)
        ∧ (∀ i w, r = .desc i w → writeRefusal s r data =
          if (s.src i).state ≠ .disarmed ∧ i ≠ compoundId ∧ i ≠ overrunId then some .armed
          else if 24 ≤ i.val ∧ w = 0 ∧ ¬(data.extractLsb' 8 8 = BitVec.ofNat 8 (0xF8 + (i.val - 24))
              ∧ data.extractLsb' 0 3 = 0
              ∧ (i ≠ hostraiseId → data.extractLsb' 3 2 =
                  if i = compoundId then 3 else if i = silenceId then 2
                  else if i = overrunId ∨ i = mismatchId then 1 else 0)) then some .fixedField
          else if w = 1 ∧ data.extractLsb' 0 4 ≠ 0 then some .field
          else if i = compoundId ∨ i = overrunId then
            (armFault i (if w = 0 then { s.src i with w0 := data }
              else if w = 1 then { s.src i with w1 := storedW1 i data }
              else { s.src i with w2 := data })).map .invalidDescriptor
          else none)
        ∧ (r ∈ ([.maskLo, .maskHi, .operate, .safe, .rbcheck, .mismatchdet, .linkcount] : List Reg) →
          writeRefusal s r data = none)))
  ∧ (∀ (i : SourceId) (x : Source),
      let vector := (x.w0.extractLsb' 8 8).toNat
      let kind := (x.w0.extractLsb' 3 2).toNat
      let trigger := (x.w0.extractLsb' 0 3).toNat
      let set := (x.w1.extractLsb' 9 3).toNat
      let react := (x.w1.extractLsb' 7 2).toNat
      let deadline := (x.w2.extractLsb' 8 8).toNat
      let fails : List Bool :=
        [decide (i.val < 24 ∧ ¬(0x01 ≤ vector ∧ vector ≤ 0xF7)),
         decide (i ≠ compoundId ∧ kind = 3),
         decide (5 ≤ trigger),
         decide (react = 3),
         decide (¬(react = 0 ↔ set = 0)),
         decide (kind = 0 ∧ react ≠ 0),
         decide (kind = 2 ∧ (react = 2 ∨ x.w1.getLsbD 4 = true)),
         decide (react = 2 ∧ deadline = 0),
         decide (i.val < 24 ∧ trigger ≤ 1 ∧ x.w1.getLsbD 6 = true),
         decide (i = staleId ∧ deadline ≠ 0)]
      armFault i x = (fails.findIdx? id).map fun n => BitVec.ofNat 4 (n + 1))

/-- In Lockdown the only writes that pass their checks are ACTION with Recover or Reinit after the lockdown record
was read, with ForceLockdown, JournalTake or JournalClear, and writes of LINKFAULT, LINKCOUNT and MISMATCHDET
(R28, R30). -/
def Obligations.LockdownAcceptsOnlyItsWrites : Prop :=
  ∀ (s : State) (r : Reg) (data : Word), s.mc.mode = .lockdown → r.access ≠ .readOnly →
    (writeRefusal s r data = none ↔
      (r = .action ∧ (data = 5 ∨ data = 7 ∨ data = 8 ∨ ((data = 3 ∨ data = 6) ∧ s.mc.causeSeen = true)))
      ∨ (r = .linkfault ∧ data.extractLsb' 4 12 = 0) ∨ r = .linkcount ∨ r = .mismatchdet)

/-- A Write of a plain register that passes its checks is Done with the word written (R27). -/
def Obligations.RegisterWriteStoresTheWord : Prop :=
  ∀ (s : State) (dest : Dest) (index : Byte) (data : Word) (tag : BitVec 4) (r : Reg),
    s.linkIdle → s.hears dest = true → regAt index = some r → plainWritable r = true →
    s.brokenFor dest index = false → s.mc.mode ≠ .lockdown →
    (s.regs.sealed = true → r = .maskLo ∨ r = .maskHi ∨ r = .operate ∨ r = .jfilter) →
    (r = .zones → data.getLsbD 0 = false) →
    (r = .policy → data.extractLsb' 5 3 = 0 ∧ data.extractLsb' 12 4 = 0 ∧ data.extractLsb' 8 4 ≠ 0) →
    (r = .silwin → data.extractLsb' 8 8 = 0) →
    (r = .jfilter → data &&& 0xFC71 = 0) →
      exec (.registerWrite dest index data tag) s = .next (s.after dest .done tag data (putReg r data))

/-- The effect of a plain register's Write: the register reads as written, no other register reads otherwise, but for
the mask bit that W3 repeats, and nothing outside the register file, the mask, the output levels and the kind filter
changes (R27, R74, R138, R153). -/
def Obligations.PlainWriteChangesOneRegister : Prop :=
  ∀ (s : State) (r : Reg) (data : Word), plainWritable r = true →
    readReg (putReg r data s) r = data
    ∧ (∀ r' : Reg, r' ≠ r → (∀ i : SourceId, r' ≠ .desc i 3) → readReg (putReg r data s) r' = readReg s r')
    ∧ (∀ i : SourceId, (putReg r data s).w3 i
        = if ((r = .maskLo ∧ i.val < 16) ∨ (r = .maskHi ∧ 16 ≤ i.val)) then
            (s.w3 i &&& 0xFFFB) ||| (if data.getLsbD (i.val % 16) then 4 else 0)
          else s.w3 i)
    ∧ (let t := putReg r data s
       t = { s with
          regs := { s.regs with zones := t.regs.zones, policy := t.regs.policy, silwin := t.regs.silwin }
          srcs := { s.srcs with mask := t.srcs.mask }
          act := { s.act with operate := t.act.operate, safe := t.act.safe, rbcheck := t.act.rbcheck }
          jn := { s.jn with filter := t.jn.filter } })

/-- The three registers whose writes clear: LINKFAULT and MISMATCHDET lose the bits written 1, LINKCOUNT becomes 0
whatever is written; in every mode and whatever the seal (R15, R16, R149). -/
def Obligations.ClearingWritesClear : Prop :=
  ∀ (s : State) (dest : Dest) (data : Word) (tag : BitVec 4), s.linkIdle → s.hears dest = true →
    (s.brokenFor dest 0x05 = false → data.extractLsb' 4 12 = 0 →
      exec (.linkfaultWrite dest data tag) s = .next
        (s.after dest .done tag ((s.link.linkFault &&& ~~~data.extractLsb' 0 4).zeroExtend 16) fun x =>
          { x with link := { x.link with linkFault := x.link.linkFault &&& ~~~data.extractLsb' 0 4 } }))
    ∧ (s.brokenFor dest 0x06 = false →
      exec (.linkcountWrite dest data tag) s = .next
        (s.after dest .done tag 0 fun x => { x with link := { x.link with linkCount := 0 } }))
    ∧ (s.brokenFor dest 0x27 = false →
      exec (.mismatchdetWrite dest data tag) s = .next
        (s.after dest .done tag (s.act.mismatchDet &&& ~~~data) fun x =>
          { x with act := { x.act with mismatchDet := x.act.mismatchDet &&& ~~~data } }))

/-- A Read is Done with the value that the register has at the start of the happening, and changes nothing else, but
that TIME_HI captures the whole tick count, returning its upper half, and LOCKREC sets cause-seen, in every mode (R24
to R26); reads of CLAIM have their own statements. A Read with no row of its own goes through FRAME_DROPPED, by the
model's choice (notes/assumptions/6.md). -/
def Obligations.ReadsReturnTheRegister : Prop :=
  ∀ (s : State) (data : Word) (tag : BitVec 4), s.linkIdle → s.mc.nodeId ≠ 0 →
    let own : Dest := .directed s.mc.nodeId
    (∀ (index : Byte) (r : Reg), regAt index = some r → r.access ≠ .writeOnly → r ≠ .claim → r ≠ .lockrec →
      r ≠ .timeHi →
        exec (.frameDropped own .read index data tag) s = .next (s.after own .done tag (readReg s r) id))
    ∧ exec (.timeHiRead s.mc.nodeId data tag) s = .next
      (s.after own .done tag (s.tc.count.extractLsb' 16 16) fun x =>
        { x with tc := { x.tc with snapshot := x.tc.count } })
    ∧ exec (.lockrecRead s.mc.nodeId data tag) s = .next
      (s.after own .done tag s.mc.lockrec fun x => { x with mc := { x.mc with causeSeen := true } })

/-! ## Descriptors, arming and reaction sets -/

/-- A Write of W0, W1 or W2 of a Disarmed source stores the word as written, where it keeps an internal source's
fixed fields and the zero bits of W1 (R31, R70). -/
def Obligations.DescriptorWriteStoresTheWord : Prop :=
  ∀ (s : State) (dest : Dest) (source : BitVec 5) (word : BitVec 2) (data : Word) (tag : BitVec 4),
    let i := sourceOf source
    s.linkIdle → s.hears dest = true → s.brokenFor dest (descIndex source word) = false →
    s.mc.mode ≠ .lockdown → s.regs.sealed = false → i ≠ compoundId → i ≠ overrunId →
    (s.src i).armed = false → word ≠ 3 →
    (24 ≤ i.val → word = 0 →
      data.extractLsb' 8 8 = BitVec.ofNat 8 (0xF8 + (i.val - 24)) ∧ data.extractLsb' 0 3 = 0
      ∧ (i ≠ hostraiseId →
          data.extractLsb' 3 2 = if i = mismatchId then 1 else if i = silenceId then 2 else 0)) →
    (word = 1 → data.extractLsb' 0 4 = 0) →
      exec (.descriptorWrite dest source word data tag) s = .next
        (s.after dest .done tag data fun x => x.setSrc i
          (if word = 0 then { s.src i with w0 := data }
           else if word = 1 then { s.src i with w1 := data }
           else { s.src i with w2 := data }))

/-- A Write of W0, W1 or W2 of COMPOUND or OVERRUN, in Configuring: W1 of COMPOUND stores the react-when that its
reaction set implies; the write is refused as Invalid descriptor, with the number of the first failing check, where
the descriptor as it would stand fails Arm validation, which a write of COMPOUND's never does (R31, R67, R71). -/
def Obligations.AlwaysArmedDescriptorsAreValidated : Prop :=
  ∀ (s : State) (dest : Dest) (source : BitVec 5) (word : BitVec 2) (data : Word) (tag : BitVec 4),
    let i := sourceOf source
    let stored : Word :=
      if i = compoundId ∧ word = 1 then
        data.extractLsb' 9 7 ++ (if data.extractLsb' 9 3 = 0 then 0#2 else 1#2) ++ data.extractLsb' 0 7
      else data
    let x : Source :=
      if word = 0 then { s.src i with w0 := stored }
      else if word = 1 then { s.src i with w1 := stored }
      else { s.src i with w2 := stored }
    s.Legal → s.linkIdle → s.hears dest = true → s.brokenFor dest (descIndex source word) = false →
    s.mc.mode = .configuring → s.regs.sealed = false → (i = compoundId ∨ i = overrunId) → word ≠ 3 →
    (word = 0 → keepsFixed i data = true) → (word = 1 → data.extractLsb' 0 4 = 0) →
      (armFault i x = none → exec (.descriptorWrite dest source word data tag) s = .next
        (s.after dest .done tag stored fun y => y.setSrc i x))
      ∧ (∀ n, armFault i x = some n → i = overrunId ∧ exec (.descriptorWrite dest source word data tag) s = .next
        (s.refusedAs dest (descIndex source word) tag (.invalidDescriptor n)))

/-- A Write of a reaction-set word stores the word, where no channel is given the code 3 and the set is not active
(R139). -/
def Obligations.ReactionSetWriteStoresTheWord : Prop :=
  ∀ (s : State) (dest : Dest) (set : BitVec 3) (wordB : Bool) (data : Word) (tag : BitVec 4),
    let k := setOf set.toNat
    s.linkIdle → s.hears dest = true → s.brokenFor dest (reactIndex set wordB) = false →
    s.mc.mode ≠ .lockdown → s.regs.sealed = false → set ≠ 0 →
    (∀ c, c < 8 → data.extractLsb' (2 * c) 2 ≠ 3) → (s.set k).binding = none →
      exec (.reactionSetWrite dest set wordB data tag) s = .next
        (s.after dest .done tag data fun x => x.putSet k
          (if wordB then { s.set k with wordB := data } else { s.set k with wordA := data }))

/-- An Arm makes a Disarmed source with a valid descriptor Quiet, with its counts, marks and detail word 0, and
changes nothing of an armed one; a Disarm makes a Quiet source Disarmed and changes nothing of a Disarmed one (R72,
R73). -/
def Obligations.ArmAndDisarmSources : Prop :=
  ∀ (s : State) (dest : Dest) (i : SourceId) (tag : BitVec 4),
    let data : Word := (sourceBits i).zeroExtend 16
    let cleared (state : SrcState) : Source :=
      { s.src i with
        state := state, count := 0, repeatCount := 0, detail := 0, latch := none, overrun := false
        expired := false }
    s.linkIdle → s.hears dest = true → s.mc.mode ≠ .lockdown →
      (s.brokenFor dest 0x0C = false →
        ((s.src i).state ≠ .disarmed → exec (.arm dest data tag) s = .next (s.after dest .done tag 0 id))
        ∧ ((s.src i).state = .disarmed → armFault i (s.src i) = none →
            exec (.arm dest data tag) s = .next (s.after dest .done tag 0 fun x => x.setSrc i (cleared .quiet))))
      ∧ (s.brokenFor dest 0x0D = false → s.regs.sealed = false → i ≠ compoundId → i ≠ overrunId →
        ((s.src i).state = .disarmed → exec (.disarm dest data tag) s = .next (s.after dest .done tag 0 id))
        ∧ ((s.src i).state = .quiet →
            exec (.disarm dest data tag) s
              = .next (s.after dest .done tag 0 fun x => x.setSrc i (cleared .disarmed))))

/-- A Release: refused as Mode in Lockdown, as Field for a data word outside 1 to 7, as Still bound while a source of
the binding is Pending, Serving or Absorbed; Done without effect for a set that is not active; and otherwise, in a state
whose frozen levels read 0 where nothing is frozen, the set leaves the collection, the channels that no remaining set
freezes lose their captures, and a ReactRelease record is written (R145). -/
def Obligations.ReleaseDropsTheSet : Prop :=
  ∀ (s : State) (dest : Dest) (data : Word) (tag : BitVec 4),
    let k := setOf data.toNat
    s.linkIdle → s.hears dest = true → s.brokenFor dest 0x26 = false →
      (s.mc.mode = .lockdown → exec (.release dest data tag) s = .next (s.refusedAs dest 0x26 tag .mode))
      ∧ (s.mc.mode ≠ .lockdown → ¬(1 ≤ data.toNat ∧ data.toNat ≤ 7) →
          exec (.release dest data tag) s = .next (s.refusedAs dest 0x26 tag .field))
      ∧ (s.mc.mode ≠ .lockdown → 1 ≤ data.toNat → data.toNat ≤ 7 →
          (∀ b i, (s.set k).binding = some b → i ∈ b →
              (s.src i).state = .pending ∨ (s.src i).state = .serving ∨ (s.src i).state = .absorbed →
              exec (.release dest data tag) s = .next (s.refusedAs dest 0x26 tag .stillBound))
          ∧ ((s.set k).binding = none → exec (.release dest data tag) s = .next (s.after dest .done tag 0 id))
          ∧ (∀ b, (s.set k).binding = some b →
              (∀ i ∈ b, (s.src i).state = .quiet ∨ (s.src i).state = .disarmed) → s.FreezesLegal → s.calm 1 →
              ∃ frozen : Word,
                (∀ c : Channel, frozen.getLsbD c.val = true ↔ s.act.frozen.getLsbD c.val = true ∧
                  ((s.set k).action c ≠ .freeze ∨
                    ∃ j : SetId, j ≠ k ∧ (s.set j).binding ≠ none ∧ (s.set j).action c = .freeze))
                ∧ exec (.release dest data tag) s = .next
                  (s.after dest .done tag 0 fun x =>
                    State.wrote
                      (let y := x.putSet k { s.set k with binding := none }
                       { y with act := { y.act with
                          frozen := frozen
                          frozenLevel := y.act.frozenLevel &&& (frozen ||| ~~~y.act.frozen) } })
                      .reactRelease none data)))

/-! ## Claim, service and completion -/

/-- A Read of CLAIM with an unannounced COMPOUND entry on top announces it: the flag is set, the claimed record is
filled, a Claim record is written for source 28 with detail word 1, and nothing is pushed or taken (R98, R100,
R103). CLAIMREC3 is to be the tick at which the entry was pushed; that the model takes it from COMPREC1, which R118 fills
at the push, is its choice (notes/assumptions/9.md). -/
def Obligations.ClaimAnnouncesCompound : Prop :=
  ∀ (s : State) (data : Word) (tag : BitVec 4) (e : StackEntry) (rest : List StackEntry),
    s.linkIdle → s.mc.nodeId ≠ 0 → s.mc.mode ≠ .lockdown → s.svc.stack = e :: rest → e.source = compoundId →
    e.announced = false → s.calm 1 →
      exec (.claim s.mc.nodeId data tag) s = .next
        (s.after (.directed s.mc.nodeId) .done tag (s.claimWord compoundId) fun x =>
          State.wrote
            { x with svc := { x.svc with
              stack := { e with announced := true } :: rest
              claimrec :=
                { w0 := s.claimWord compoundId
                  w1 := 0#5 ++ (s.src compoundId).level ++ 1#8
                  w2 := (s.src compoundId).detail
                  w3 := s.svc.comprec1 } } }
            .claim (some compoundId) 1)

/-- A Read of CLAIM takes the claim candidate: its entry leaves the list, the claimed record is filled, an announced
entry is pushed with its service deadline loaded, the source is Serving with count, marks and position gone, and a
Claim record is written with the count as detail word (R98, R99, R102, R103, R131). -/
def Obligations.ClaimTakesTheCandidate : Prop :=
  ∀ (s : State) (data : Word) (tag : BitVec 4) (e : PendEntry),
    let i := e.source
    let x := s.src i
    s.linkIdle → s.mc.nodeId ≠ 0 → s.mc.mode = .running → s.topUnannounced = false →
    s.candidate = some e → s.calm 1 →
      exec (.claim s.mc.nodeId data tag) s = .next
        (s.after (.directed s.mc.nodeId) .done tag (s.claimWord i) fun y =>
          State.wrote
            (State.setSrc
              { y with
                arb := { y.arb with waiting := y.arb.waiting.filter fun p => p.source ≠ i }
                svc := { y.svc with
                  stack :=
                    { source := i, announced := true
                      deadline := if x.serviceDeadline = 0 then .none
                                  else .runningDown (x.serviceDeadline * 100) } :: y.svc.stack
                  claimrec :=
                    { w0 := s.claimWord i
                      w1 := BitVec.ofBool x.expired ++ 0#4 ++ x.level ++ x.count
                      w2 := x.detail
                      w3 := (match x.latch with | some l => l.tick.extractLsb' 0 16 | none => 0) } } }
              i { x with
                  state := .serving, count := 0, repeatCount := 0, latch := none, overrun := false
                  expired := false })
            .claim (some i) (x.count.zeroExtend 16))

/-- A Read of CLAIM that finds neither an unannounced COMPOUND top nor a candidate, outside Lockdown, is Empty with
data word 0 and changes nothing else; in Configuring it always is (R101). -/
def Obligations.EmptyClaimChangesNothing : Prop :=
  ∀ (s : State) (data : Word) (tag : BitVec 4), s.AtRest → s.linkIdle → s.mc.nodeId ≠ 0 →
    (s.mc.mode ≠ .lockdown → s.topUnannounced = false → s.candidate = none →
      exec (.claim s.mc.nodeId data tag) s = .next
        ((s.heard (.directed s.mc.nodeId)).replied (.directed s.mc.nodeId) .empty tag 0))
    ∧ (s.EventsAgree → s.mc.mode = .configuring → s.topUnannounced = false ∧ s.candidate = none)
    ∧ (s.mc.mode = .running →
        (s.arb.waiting = [] ∨ (∀ e ∈ s.arb.waiting, s.eligible e.source = false) ∨ s.svc.stack.length = 4
          ∨ ∃ top rest, s.svc.stack = top :: rest ∧ ∀ e ∈ s.arb.waiting, s.eligible e.source = true →
              s.pairAbove e.source top.source = false) →
        s.candidate = none)

/-- An entry is eligible if its mask bit is 0 and its level is at least the threshold or its class is Critical (R89); it
is claimable if it is eligible, the mode is Running, the stack holds fewer than four entries, and its class rank and
level, the rank first, exceed those of the top where there is one (R90). The claim candidate, where there is one, is the
first eligible entry of the list; and where the first eligible entry is not claimable, no entry is (R90). -/
def Obligations.CandidateIsTheFirstEligible : Prop :=
  (∀ s : State, s.EventsAgree →
    s.candidate = (s.arb.waiting.find? fun e => s.eligible e.source).filter fun e => s.claimable e.source)
  ∧ ∀ (s : State) (i : SourceId),
    let kind (j : SourceId) : Nat := ((s.src j).w0.extractLsb' 3 2).toNat
    let rank (j : SourceId) : Nat := if j = compoundId then 3 else kind j
    let level (j : SourceId) : Nat := ((s.src j).w0.extractLsb' 5 3).toNat
    (s.eligible i = true ↔
      s.srcs.mask.getLsbD i.val = false ∧ ((s.regs.policy.extractLsb' 2 3).toNat ≤ level i ∨ kind i = 2))
    ∧ (s.claimable i = true ↔
      s.eligible i = true ∧ s.mc.mode = .running ∧ s.svc.stack.length < 4
      ∧ ∀ top rest, s.svc.stack = top :: rest →
          rank top.source < rank i ∨ (rank top.source = rank i ∧ level top.source < level i))

/-- The claim word has vector, 0, class and source index, and is not 0 for a source that can be claimed (R102). -/
def Obligations.ClaimWordLayout : Prop :=
  ∀ (s : State) (i : SourceId),
    (s.claimWord i).extractLsb' 8 8 = (s.src i).w0.extractLsb' 8 8
    ∧ (s.claimWord i).getLsbD 7 = false
    ∧ (s.claimWord i).extractLsb' 5 2 = (s.src i).w0.extractLsb' 3 2
    ∧ ((s.claimWord i).extractLsb' 0 5).toNat = i.val
    ∧ (s.FieldsLegal → s.ArmedValid → (s.src i).armed = true → s.claimWord i ≠ 0)

/-- A Complete that names the ordinary source on top pops its entry and writes a Complete record with the repeat
count as detail word; the source returns to Quiet, or, where occurrences were kept back, is Pending again at once
with its repeat count as count, a new position, and a fresh claim deadline (R106, R107). -/
def Obligations.CompleteReturnsOrRelatches : Prop :=
  ∀ (s : State) (dest : Dest) (tag : BitVec 4) (e : StackEntry) (rest : List StackEntry),
    let i := e.source
    let x := s.src i
    s.linkIdle → s.hears dest = true → s.brokenFor dest 0x11 = false → s.mc.mode ≠ .lockdown →
    s.svc.stack = e :: rest → i ≠ compoundId → s.calm 1 →
      (x.repeatCount = 0 →
        exec (.complete dest ((sourceBits i).zeroExtend 16) tag) s = .next
          (s.after dest .done tag 0 fun y =>
            State.setSrc (State.wrote { y with svc := { y.svc with stack := rest } } .complete (some i) 0)
              i { x with state := .quiet }))
      ∧ (x.repeatCount ≠ 0 →
        exec (.complete dest ((sourceBits i).zeroExtend 16) tag) s = .next
          (s.after dest .done tag 0 fun y =>
            let z := State.setSrc
              (State.wrote { y with svc := { y.svc with stack := rest } } .complete (some i)
                (x.repeatCount.zeroExtend 16))
              i { x with
                  state := .pending, count := x.repeatCount, repeatCount := 0, expired := false
                  latch := some { position := s.arb.nextPosition, tick := s.tc.count } }
            { z with arb := { z.arb with
                nextPosition := s.arb.nextPosition + 1
                waiting := insertEntry z
                  { source := i
                    deadline := if x.claimDeadline = 0 then .none else .runningDown (x.claimDeadline * 10) }
                  s.arb.waiting } }))

/-- A Complete of an announced COMPOUND entry returns COMPOUND to Quiet and releases the absorbed source into the
list with its count, detail word, position and latch tick, and with a fresh claim deadline; the compound record is
kept (R109, R121). -/
def Obligations.CompleteReleasesAbsorbedSource : Prop :=
  ∀ (s : State) (dest : Dest) (tag : BitVec 4) (e : StackEntry) (rest : List StackEntry) (j : SourceId),
    let x := s.src j
    s.Legal → s.linkIdle → s.hears dest = true → s.brokenFor dest 0x11 = false → s.mc.mode = .running →
    s.svc.stack = e :: rest → e.source = compoundId → e.announced = true → x.state = .absorbed → s.calm 1 →
      ∃ t, exec (.complete dest 28 tag) s = .next t
        ∧ t.svc = { s.svc with stack := rest }
        ∧ t.srcs = ((s.setSrc compoundId { s.src compoundId with state := .quiet, repeatCount := 0 }).setSrc j
            { x with state := .pending, expired := false }).srcs
        ∧ t.arb.nextPosition = s.arb.nextPosition
        ∧ (∀ p, p ∈ t.arb.waiting ↔ p ∈ s.arb.waiting ∨ p =
            { source := j
              deadline := if x.claimDeadline = 0 then .none else .runningDown (x.claimDeadline * 10) })
        ∧ t.EventsAgree
        ∧ t.act.sets = s.act.sets ∧ t.srcs.mask = s.srcs.mask ∧ t.mc = s.mc
        ∧ t.jn = (State.wrote s .complete (some compoundId) 0).jn
        ∧ t.link.prev = { outcome := .done, tag := tag, data := 0 }

/-- A RAISE of a Quiet HOSTRAISE with the normal outcome latches it, where its class is Notice, where it is a Fault and the
stack severity is Notice, or Fault or Critical with compounding not enabled, and where it is a Critical and the severity
is Notice or Fault: a set that it applies at its latch is bound to it and freezes its channels, with a ReactApply record;
the entry joins the list with count 1, the data word as detail word, the newest position and its claim deadline; the mask
bit is set if it masks itself; and a Latch record is written (R82, R110, R111, R114, R141). -/
def Obligations.RaiseLatchesNotice : Prop :=
  ∀ (s : State) (dest : Dest) (data : Word) (tag : BitVec 4),
    let x := s.src hostraiseId
    let replied := (s.heard dest).replied dest .done tag 0
    let latched (y : State) : State :=
      let z := y.setSrc hostraiseId { x with
        state := .pending, count := 1, detail := data, expired := false
        latch := some { position := s.arb.nextPosition, tick := s.tc.count } }
      let v := { z with arb := { z.arb with
        nextPosition := s.arb.nextPosition + 1
        waiting := insertEntry z
          { source := hostraiseId
            deadline := if x.claimDeadline = 0 then .none else .runningDown (x.claimDeadline * 10) }
          s.arb.waiting } }
      State.wrote
        (if x.selfMasks then { v with srcs := { v.srcs with mask := v.srcs.mask ||| 0x40000000 } } else v)
        .latch (some hostraiseId) data
    s.linkIdle → s.hears dest = true → s.brokenFor dest 0x18 = false → s.mc.mode = .running → x.state = .quiet →
    x.cls = .notice
      ∨ (x.cls = .fault ∧ (s.severity = 0 ∨ ((s.severity = 1 ∨ s.severity = 2) ∧ s.compoundEnable = false)))
      ∨ (x.cls = .critical ∧ (s.severity = 0 ∨ s.severity = 1)) →
      (x.reactWhen ≠ .atLatch → s.calm 1 →
        exec (.raise dest data tag) s = .next (endHappening (latched replied)))
      ∧ (x.reactWhen = .atLatch → x.reactionSet ≠ 0 → s.calm 2 →
        let k := setOf x.reactionSet.toNat
        let b := (s.set k).binding.getD []
        ∃ fresh : Word,
          (∀ c : Channel, fresh.getLsbD c.val = true ↔
            (s.set k).action c = .freeze ∧ s.act.frozen.getLsbD c.val = false)
          ∧ exec (.raise dest data tag) s = .next (endHappening (latched
            (State.wrote
              (let y := replied.putSet k
                { s.set k with binding := some (if hostraiseId ∈ b then b else b ++ [hostraiseId]) }
               { y with act := { y.act with
                  frozen := s.act.frozen ||| fresh
                  frozenLevel := (s.act.frozenLevel &&& ~~~fresh) ||| (s.act.effective &&& fresh) } })
              .reactApply (some hostraiseId) (x.reactionSet.zeroExtend 16)))))

/-- A RAISE of a HOSTRAISE that is Pending or Absorbed is counted, one of a Serving HOSTRAISE is kept back if it
repeats and is discarded if it does not; counts stay at 255 (R84, R85, R110). -/
def Obligations.RaiseCountsOrIsDiscarded : Prop :=
  ∀ (s : State) (dest : Dest) (data : Word) (tag : BitVec 4),
    let x := s.src hostraiseId
    let y := (s.heard dest).replied dest .done tag 0
    s.linkIdle → s.hears dest = true → s.brokenFor dest 0x18 = false → s.mc.mode = .running →
      (x.state = .pending ∨ x.state = .absorbed →
        exec (.raise dest data tag) s = .next (endHappening (y.setSrc hostraiseId
          { x with count := BitVec.ofNat 8 (min 255 (x.count.toNat + 1)), detail := data })))
      ∧ (x.state = .serving → x.repeats = true →
        exec (.raise dest data tag) s = .next (endHappening (y.setSrc hostraiseId
          { x with repeatCount := BitVec.ofNat 8 (min 255 (x.repeatCount.toNat + 1)), detail := data })))
      ∧ (x.state = .serving → x.repeats = false →
        exec (.raise dest data tag) s = .next (endHappening y))

/-! ## Escalation -/

/-- A RAISE of a Quiet HOSTRAISE whose class is Fault or Critical, weighed against the stack: a Fault over a Fault or
a Critical with compounding enabled is absorbed and a COMPOUND entry stands unannounced on top, its service deadline
loaded from COMPOUND's W2, or with a full stack the node locks down with cause 4; a Critical over a Critical locks down
with cause 1, and a Fault or a Critical over COMPOUND with cause 2 or 3, the source staying as it was (R111, R114 to R118,
R122, R123, R131). -/
def Obligations.RaiseEscalates : Prop :=
  ∀ (s : State) (dest : Dest) (data : Word) (tag : BitVec 4) (top : StackEntry) (rest : List StackEntry),
    let x := s.src hostraiseId
    let units := ((s.src compoundId).w2.extractLsb' 0 8).toNat
    s.Legal → s.linkIdle → s.hears dest = true → s.brokenFor dest 0x18 = false → s.mc.mode = .running →
    x.state = .quiet → s.svc.stack = top :: rest →
      (x.cls = .fault → s.compoundEnable = true → (s.rank top.source = 1 ∨ s.rank top.source = 2) →
        ∃ t, exec (.raise dest data tag) s = .next t
          ∧ t.link.prev = { outcome := .done, tag := tag, data := 0 }
          ∧ (t.src hostraiseId).state = .absorbed ∧ (t.src hostraiseId).count = 1
          ∧ (t.src hostraiseId).detail = data ∧ t.masked hostraiseId = s.masked hostraiseId
          ∧ (rest.length < 3 → t.mc.mode = .running ∧ t.arb.alert = true
              ∧ t.svc.stack =
                  { source := compoundId, announced := false
                    deadline := if units = 0 then .none else .runningDown (units * 100) } :: s.svc.stack
              ∧ t.svc.comprec0 = (sourceBits top.source).zeroExtend 8 ++ 30#8
              ∧ t.svc.comprec1 = s.tc.count.extractLsb' 0 16
              ∧ (t.src compoundId).state = .serving ∧ (t.src compoundId).detail = t.svc.comprec0)
          ∧ (rest.length = 3 → t.mc.mode = .lockdown ∧ t.svc = s.svc
              ∧ t.mc.lockrec = 4#4 ++ 0#2 ++ 30#5 ++ sourceBits top.source))
      ∧ (∀ cause, (x.cls = .critical ∧ s.rank top.source = 2 ∧ cause = 1#4)
            ∨ (x.cls = .fault ∧ s.rank top.source = 3 ∧ cause = 2#4)
            ∨ (x.cls = .critical ∧ s.rank top.source = 3 ∧ cause = 3#4) →
        ∃ t, exec (.raise dest data tag) s = .next t
          ∧ t.link.prev = { outcome := .done, tag := tag, data := 0 }
          ∧ t.mc.mode = .lockdown ∧ t.mc.causeSeen = false ∧ t.arb.alert = true
          ∧ t.mc.lockrec = cause ++ 0#2 ++ 30#5 ++ sourceBits top.source
          ∧ t.mc.locktick = s.tc.count.extractLsb' 0 16
          ∧ t.srcs = s.srcs ∧ t.arb.waiting = s.arb.waiting ∧ t.svc = s.svc ∧ t.act.sets = s.act.sets
          ∧ t.act.effective = s.act.safe)

/-- The stack severity is the class of the top, Notice for an empty stack, and no entry of the stack has a more
severe class (R113). -/
def Obligations.SeverityIsTheTopsClass : Prop :=
  ∀ s : State,
    (s.svc.stack = [] → s.severity = 0)
    ∧ (∀ e ∈ s.svc.stack, s.rank e.source ≤ s.severity)
    ∧ (s.svc.stack ≠ [] → ∃ e ∈ s.svc.stack, s.rank e.source = s.severity)
    ∧ (s.EventsAgree → ∀ top rest, s.svc.stack = top :: rest → s.severity = s.rank top.source)

/-- ForceLockdown enters Lockdown with cause 6 from Configuring and from Running, and in Lockdown is Done with no
other effect (R44, R124). -/
def Obligations.ForceLockdownEntersOnce : Prop :=
  ∀ (s : State) (dest : Dest) (tag : BitVec 4), s.linkIdle → s.hears dest = true → s.brokenFor dest 0x02 = false →
    (s.mc.mode ≠ .lockdown →
      exec (.forceLockdown dest tag) s = .next (s.after dest .done tag 0 fun x => x.lockedBy 6 none 0))
    ∧ (s.mc.mode = .lockdown → exec (.forceLockdown dest tag) s = .next (s.after dest .done tag 0 id))

/-! ## Modes, the seal and the journal's actions -/

/-- Start makes Configuring Running, empties the mismatch set, clears the readback counters and loads the watchdog;
Stop makes Running Configuring with the watchdog Stopped, if the list and the stack are empty; each writes its Mode
record, and is refused in the other modes (R28, R42, R43, R45). -/
def Obligations.StartAndStopChangeTheMode : Prop :=
  ∀ (s : State) (dest : Dest) (tag : BitVec 4), s.linkIdle → s.hears dest = true → s.brokenFor dest 0x02 = false →
    (s.mc.mode = .configuring →
      exec (.start dest tag) s = .next (s.after dest .done tag 0 fun x =>
        State.wrote
          { x with
            mc := { x.mc with mode := .running }
            act := { x.act with mismatchSet := 0, counters := Vector.replicate 16 0 }
            dl := { x.dl with
              watchdog :=
                if (x.regs.silwin.extractLsb' 0 8).toNat = 0 then none
                else some ((x.regs.silwin.extractLsb' 0 8).toNat * 100) } }
          .mode none 0x0001))
    ∧ (s.mc.mode ≠ .configuring → exec (.start dest tag) s = .next (s.refusedAs dest 0x02 tag .mode))
    ∧ (s.mc.mode = .running → s.arb.waiting = [] → s.svc.stack = [] →
      exec (.stop dest tag) s = .next (s.after dest .done tag 0 fun x =>
        State.wrote
          { x with mc := { x.mc with mode := .configuring }, dl := { x.dl with watchdog := none } }
          .mode none 0x0100))
    ∧ (s.mc.mode = .running → ¬(s.arb.waiting = [] ∧ s.svc.stack = []) →
      exec (.stop dest tag) s = .next (s.refusedAs dest 0x02 tag .engineBusy))
    ∧ (s.mc.mode ≠ .running → exec (.stop dest tag) s = .next (s.refusedAs dest 0x02 tag .mode))

/-- Recover, in Lockdown with cause-seen set: the lists, the stack, the compound record, the deadlines and the active
sets go, every armed source is Quiet, everything else is kept, and a Mode record is written; without cause-seen it
is refused, and outside Lockdown too (R28, R30, R47). The next source to latch takes the first position of a fresh
order (R56). -/
def Obligations.RecoverClearsEventsKeepsEvidence : Prop :=
  ∀ (s : State) (dest : Dest) (tag : BitVec 4), s.linkIdle → s.hears dest = true → s.brokenFor dest 0x02 = false →
    (s.mc.mode = .lockdown → s.mc.causeSeen = true →
      exec (.recover dest tag) s = .next (s.after dest .done tag 0 fun x =>
        State.wrote
          { x with
            mc := { x.mc with mode := .configuring }
            srcs := { x.srcs with table := x.srcs.table.map fun y =>
              { y with
                state := if y.state = .disarmed then .disarmed else .quiet
                count := 0, repeatCount := 0, detail := 0, latch := none, overrun := false
                expired := false } }
            arb := { x.arb with waiting := [], nextPosition := 0 }
            svc := { x.svc with stack := [], comprec0 := 0, comprec1 := 0 }
            dl := { watchdog := none }
            act := { x.act with
              sets := x.act.sets.map fun k => { k with binding := none }
              frozen := 0, frozenLevel := 0, mismatchSet := 0, counters := Vector.replicate 16 0 } }
          .mode none 0x0200))
    ∧ (s.mc.mode = .lockdown → s.mc.causeSeen = false →
      exec (.recover dest tag) s = .next (s.refusedAs dest 0x02 tag .causeUnseen))
    ∧ (s.mc.mode ≠ .lockdown → exec (.recover dest tag) s = .next (s.refusedAs dest 0x02 tag .mode))

/-- Reinit, in Configuring or in Lockdown with cause-seen set, leaves what the Reinit columns of section 3.5 give,
with its Mode record the first of the cleared journal; it is refused in Running and, without cause-seen, in Lockdown
(R28, R30, R48, R55 to R57). The next source to latch takes the first position of a fresh order
(R56). -/
def Obligations.ReinitResetsAllButConfiguration : Prop :=
  ∀ (s : State) (dest : Dest) (tag : BitVec 4), s.linkIdle → s.hears dest = true → s.brokenFor dest 0x02 = false →
    (s.mc.mode = .configuring ∨ (s.mc.mode = .lockdown ∧ s.mc.causeSeen = true) →
      exec (.reinit dest tag) s = .next (s.after dest .done tag 0 fun x =>
        State.wrote
          { x with
            mc := { x.mc with
              mode := .configuring, resetCause := .reinit, lockrec := 0, locktick := 0, causeSeen := false }
            srcs :=
              { mask := 0
                table := Vector.ofFn fun i =>
                  { x.src i with
                    state := if i = overrunId ∨ i = compoundId then .quiet else .disarmed
                    count := 0, repeatCount := 0, detail := 0, latch := none, overrun := false
                    expired := false } }
            arb := { x.arb with waiting := [], nextPosition := 0 }
            svc := { stack := [], claimrec := ⟨0, 0, 0, 0⟩, comprec0 := 0, comprec1 := 0 }
            dl := { watchdog := none }
            act := { x.act with
              sets := x.act.sets.map fun k => { k with binding := none }
              frozen := 0, frozenLevel := 0, mismatchSet := 0, counters := Vector.replicate 16 0 }
            jn := { x.jn with unread := [], window := ⟨0, 0, 0, 0⟩, lost := 0 } }
          .mode none (if s.mc.mode = .lockdown then 0x0200 else 0)))
    ∧ (s.mc.mode = .running → exec (.reinit dest tag) s = .next (s.refusedAs dest 0x02 tag .mode))
    ∧ (s.mc.mode = .lockdown → s.mc.causeSeen = false →
      exec (.reinit dest tag) s = .next (s.refusedAs dest 0x02 tag .causeUnseen))

/-- Seal sets the flag, which MODE shows in bit 4, and changes nothing else, in Configuring and Running, and is refused
as Mode in Lockdown; no
command but a hard reset clears the flag; and while it is set no command but a hard reset changes what it protects,
and none disarms a source without leaving the state of a Reinit (R29, R37, R48). -/
def Obligations.SealFixesTheConfiguration : Prop :=
  (∀ (s : State) (dest : Dest) (tag : BitVec 4), s.linkIdle → s.hears dest = true → s.brokenFor dest 0x02 = false →
    (s.mc.mode ≠ .lockdown →
      exec (.sealNode dest tag) s = .next (s.after dest .done tag 0 fun x =>
        { x with regs := { x.regs with sealed := true } }))
    ∧ (s.mc.mode = .lockdown → exec (.sealNode dest tag) s = .next (s.refusedAs dest 0x02 tag .mode)))
  ∧ (∀ s : State, (readReg s .mode).getLsbD 4 = s.regs.sealed)
  ∧ (∀ (s : State) (c : Instr), isHardReset c = true → ∃ t, exec c s = .next t ∧ t.regs.sealed = false)
  ∧ (∀ (s t : State) (c : Instr), s.regs.sealed = true → isHardReset c = false → exec c s = .next t →
      t.regs.sealed = true ∧ s.SameProtected t
      ∧ ((∀ i : SourceId, (s.src i).armed = true → (t.src i).armed = true)
        ∨ (t.mc.resetCause = .reinit ∧ t.mc.mode = .configuring ∧ t.svc.claimrec = ⟨0, 0, 0, 0⟩
          ∧ t.jn.unread.length ≤ 1 ∧ t.jn.lost = 0)))

/-- JournalTake moves the oldest unread record into the take window, or empties the window and is Empty; JournalClear
discards the unread records and the lost count and keeps the window; both in every mode and whatever the seal (R158,
R159). -/
def Obligations.JournalActions : Prop :=
  ∀ (s : State) (dest : Dest) (tag : BitVec 4), s.linkIdle → s.hears dest = true → s.brokenFor dest 0x02 = false →
    (∀ r rest, s.jn.unread = r :: rest →
      exec (.journalTake dest tag) s = .next (s.after dest .done tag 0 fun x =>
        { x with jn := { x.jn with window := r, unread := rest } }))
    ∧ (s.jn.unread = [] →
      exec (.journalTake dest tag) s = .next (s.after dest .empty tag 0 fun x =>
        { x with jn := { x.jn with window := ⟨0, 0, 0, 0⟩ } }))
    ∧ exec (.journalClear dest tag) s = .next (s.after dest .done tag 0 fun x =>
        { x with jn := { x.jn with unread := [], lost := 0 } })

/-- An admitted record that meets a full journal: under overwrite the oldest goes and the record joins; under
discard-new a forced record takes the newest one's place and any other is discarded; the lost count rises by one, and
a JOURNAL occurrence with it as detail word is called for where JOURNAL is armed and the happening began and is in
Running (R155, R156). That a call waits in a list, and that its conditions are read at the loss, is how the model reads
R80 and R156 (DEDUCED, notes/assumptions/14.md). Such an occurrence, when it is processed at the end, latches a Quiet
JOURNAL as a Notice, is counted by a Pending one, and is kept back or discarded by a Serving one; a Latch record lost in
that processing raises the lost count and calls for nothing more, which is the third condition of R156 and is kept where
the occurrence is processed (R80 to R85). The last clause has it in a command, a Release whose record is lost. -/
def Obligations.FullJournalLosesOneRecord : Prop :=
  (∀ (w : Work) (k : RecordKind) (source : Option SourceId) (detail : Word),
    w.st.jn.unread.length = 48 → w.st.recordAdmitted k source = true →
      let lost : Byte := if w.st.jn.lost = 255 then 255 else w.st.jn.lost + 1
      let u := w.st.jn.unread
      let r := w.st.record k source detail
      writeRecord k source detail w =
        { w with
          st := { w.st with jn := { w.st.jn with
            lost := lost
            unread :=
              if w.st.regs.policy.getLsbD 1 then u.drop 1 ++ [r]
              else if k = .absorb ∨ k = .compound ∨ k = .lockdown then u.dropLast ++ [r]
              else u } }
          derived :=
            if (w.st.src journalId).armed = true ∧ w.startedRunning = true ∧ w.st.mc.mode = .running then
              w.derived ++ [lost.zeroExtend 16]
            else w.derived })
  ∧ (∀ (w : Work) (detail : Word),
    let s := w.st
    let x := s.src journalId
    w.derived = [detail] →
      (s.mc.mode ≠ .running ∨ x.state = .disarmed → finish w = endHappening s)
      ∧ (s.mc.mode = .running →
        (x.state = .pending ∨ x.state = .absorbed →
          finish w = endHappening (s.setSrc journalId
            { x with count := BitVec.ofNat 8 (min 255 (x.count.toNat + 1)), detail := detail }))
        ∧ (x.state = .serving → x.repeats = true →
          finish w = endHappening (s.setSrc journalId
            { x with repeatCount := BitVec.ofNat 8 (min 255 (x.repeatCount.toNat + 1)), detail := detail }))
        ∧ (x.state = .serving → x.repeats = false → finish w = endHappening s)
        ∧ (x.state = .quiet → x.cls = .notice → x.reactWhen = .never →
          finish w = endHappening
            (let z := s.setSrc journalId { x with
                state := .pending, count := 1, detail := detail, expired := false
                latch := some { position := s.arb.nextPosition, tick := s.tc.count } }
             let v := { z with arb := { z.arb with
                nextPosition := s.arb.nextPosition + 1
                waiting := insertEntry z
                  { source := journalId
                    deadline := if x.claimDeadline = 0 then .none else .runningDown (x.claimDeadline * 10) }
                  s.arb.waiting } }
             State.wrote
               (if x.selfMasks && !s.masked journalId then
                  markHold 0x0B { v with srcs := { v.srcs with mask := v.srcs.mask ||| 0x08000000 } }
                else v)
               .latch (some journalId) detail))))
  ∧ (∀ (s : State) (dest : Dest) (data : Word) (tag : BitVec 4) (b : List SourceId),
    let x := s.src journalId
    let lost : Byte := if s.jn.lost = 255 then 255 else s.jn.lost + 1
    s.Legal → s.linkIdle → s.hears dest = true → s.brokenFor dest 0x26 = false → s.mc.mode = .running →
    1 ≤ data.toNat → data.toNat ≤ 7 → (s.set (setOf data.toNat)).binding = some b →
    (∀ i ∈ b, (s.src i).state = .quiet ∨ (s.src i).state = .disarmed) →
    s.jn.unread.length = 48 → s.jn.filter.getLsbD 8 = true →
      ∃ t, exec (.release dest data tag) s = .next t
        ∧ t.link.prev = { outcome := .done, tag := tag, data := 0 } ∧ t.jn.unread.length = 48
        ∧ (t.set (setOf data.toNat)).binding = none
        ∧ (x.state = .pending → t.arb.waiting = s.arb.waiting ∧ t.jn.lost = lost
          ∧ t.srcs = (s.setSrc journalId
              { x with count := BitVec.ofNat 8 (min 255 (x.count.toNat + 1)), detail := lost.zeroExtend 16 }).srcs)
        ∧ (x.state = .quiet →
          (t.src journalId).state = .pending ∧ (t.src journalId).count = 1
          ∧ (t.src journalId).detail = lost.zeroExtend 16 ∧ journalId ∈ t.arb.waiting.map (·.source)
          ∧ t.jn.lost =
              if x.w1.getLsbD 5 = true ∧ s.jn.filter.getLsbD 1 = true ∧ lost ≠ 255 then lost + 1 else lost))

/-! ## The scan tick and the deadlines -/

/-- A tick outside Running, after the reset interval and with no frame in progress: the counter advances, the inputs
are sampled, each line is filtered by its settle rule, the readback comparison runs, the outputs are recomputed, and
nothing else changes; while a hard reset is asserted there is no tick (R50, R59 to R61, R93, R95, R147 to R149). That a
bit of MISMATCHDET set in Lockdown breaks a hold there is the model's choice (notes/assumptions/16.md). -/
def Obligations.TickOutsideRunning : Prop :=
  (∀ (s : State) (lines : BitVec 24) (readback : Word), s.rst.held = true →
    exec (.scanTick lines readback) s = .next s)
  ∧ (∀ (s : State) (lines : BitVec 24) (readback : Word),
    s.rst.held = false → s.rst.intervalLeft = 0 → s.link.phase ≠ .shifting → s.mc.mode ≠ .running →
      ∃ t, exec (.scanTick lines readback) s = .next t
        ∧ t.tc.count = s.tc.count + 1
        ∧ t.scan.rawLines = lines ∧ t.scan.rawReadback = readback ∧ t.scan.started = true
        ∧ (∀ k : LineId,
            let need := max 1 (s.src (lineSource k)).settle
            let n := s.scan.settle.get k
            let level := s.scan.filtered.getLsbD k.val
            let raw := lines.getLsbD k.val
            (t.scan.filtered.getLsbD k.val, t.scan.settle.get k) =
              if s.scan.started = false then (raw, 0)
              else if raw = level then (level, 0)
              else if need ≤ n + 1 then (raw, 0)
              else (level, n + 1))
        ∧ (∀ c : Channel,
            let n := s.act.counters.get c
            let differs := readback.getLsbD c.val != s.act.effective.getLsbD c.val
            let window := (s.regs.policy.extractLsb' 8 4).toNat
            (t.act.counters.get c, t.act.mismatchSet.getLsbD c.val) =
              if s.act.rbcheck.getLsbD c.val = false then (0, false)
              else if s.act.mismatchSet.getLsbD c.val then (if differs then (n, true) else (0, false))
              else if s.act.moved.getLsbD c.val || !differs then (0, false)
              else (n + 1, decide (window ≤ n + 1)))
        ∧ t.act.mismatchDet
            = s.act.mismatchDet ||| (t.act.mismatchSet &&& ~~~s.act.mismatchSet)
        ∧ t.act.effective = s.act.safe ∧ t.act.moved = s.act.effective ^^^ s.act.safe
        ∧ t.arb.alert = decide (s.mc.mode = .lockdown)
        ∧ t = { s with
            tc := { s.tc with count := t.tc.count }
            scan := t.scan
            arb := { s.arb with alert := t.arb.alert }
            act := { s.act with
              counters := t.act.counters, mismatchSet := t.act.mismatchSet
              mismatchDet := t.act.mismatchDet, effective := t.act.effective, moved := t.act.moved }
            link := { s.link with
              hold := s.link.hold.map fun h =>
                { h with changed := h.changed || (h.index == 0x27 && t.act.mismatchDet != s.act.mismatchDet) } } })

/-- A tick in Running and the sources of the lines. A source has an occurrence where its trigger asks for one, by the
line's filtered level and its change at this tick (R60, R62 to R64); a Quiet one with none stays as it was. The
occurrences are processed in ascending order, until one locks the node down: a Pending or Absorbed source is counted, a
Serving one keeps the occurrence back if it repeats and discards it if it does not, and a Quiet one latches, later ones
in later positions (R65, R83 to R85). The first of them, if its source is Quiet, is weighed against the stack as it
stood: it is Pending with count 1, the level in its detail word and the newest position, masks itself if it asks to, and
applies its set at the latch if it asks to; or it is absorbed and COMPOUND is pushed, or with a full stack the node locks
down; or the node locks down at once with everything else as it was (R82, R114 to R118, R122, R123). -/
def Obligations.TickLatchesLineSources : Prop :=
  ∀ (s : State) (lines : BitVec 24) (readback : Word),
    let src (k : LineId) := s.src (lineSource k)
    let raw (k : LineId) := lines.getLsbD k.val
    let old (k : LineId) := s.scan.filtered.getLsbD k.val
    let settles (k : LineId) : Prop :=
      raw k ≠ old k ∧ max 1 ((src k).w1.extractLsb' 12 4).toNat ≤ s.scan.settle.get k + 1
    let high (k : LineId) : Prop := (settles k ∧ raw k = true) ∨ (¬settles k ∧ old k = true)
    let occurs (k : LineId) : Prop :=
      let code := ((src k).w0.extractLsb' 0 3).toNat
      (src k).state ≠ .disarmed
      ∧ ((code = 0 ∧ high k ∧ (settles k ∨ (src k).state = .quiet))
        ∨ (code = 1 ∧ ¬high k ∧ (settles k ∨ (src k).state = .quiet))
        ∨ (code = 2 ∧ settles k ∧ raw k = true) ∨ (code = 3 ∧ settles k ∧ raw k = false) ∨ (code = 4 ∧ settles k))
    let compounds (k : LineId) : Prop :=
      (src k).cls = .fault ∧ s.compoundEnable = true ∧ (s.severity = 1 ∨ s.severity = 2)
    let locks (k : LineId) (cause : BitVec 4) : Prop :=
      ((src k).cls = .critical ∧ s.severity = 2 ∧ cause = 1) ∨ ((src k).cls = .fault ∧ s.severity = 3 ∧ cause = 2)
      ∨ ((src k).cls = .critical ∧ s.severity = 3 ∧ cause = 3)
    let units := ((s.src compoundId).w2.extractLsb' 0 8).toNat
    s.Legal → s.rst.held = false → s.rst.intervalLeft = 0 → s.link.phase ≠ .shifting → s.mc.mode = .running →
    s.scan.started = true →
      ∃ t, exec (.scanTick lines readback) s = .next t
        ∧ (∀ k : LineId,
          let i := lineSource k
          let x := src k
          let y := t.src i
          let level (d : Word) : Prop := (high k → d = 1) ∧ (¬high k → d = 0)
          (x.state = .quiet → ¬occurs k → y = x)
          ∧ (x.state = .pending ∨ x.state = .absorbed →
              y.state = x.state ∧ y.latch = x.latch
              ∧ (¬occurs k → y.count = x.count ∧ y.detail = x.detail)
              ∧ (occurs k → t.mc.mode = .running →
                  y.count = BitVec.ofNat 8 (min 255 (x.count.toNat + 1)) ∧ level y.detail))
          ∧ (x.state = .serving →
              y.state = .serving ∧ y.count = x.count
              ∧ (¬occurs k ∨ x.w1.getLsbD 6 = false → y.repeatCount = x.repeatCount ∧ y.detail = x.detail)
              ∧ (occurs k → x.w1.getLsbD 6 = true → t.mc.mode = .running →
                  y.repeatCount = BitVec.ofNat 8 (min 255 (x.repeatCount.toNat + 1)) ∧ level y.detail))
          ∧ (x.state = .quiet → occurs k → t.mc.mode = .running →
              (compounds k → y.state = .absorbed) ∧ (¬compounds k → y.state = .pending)
              ∧ y.count = 1 ∧ level y.detail
              ∧ (∃ l, y.latch = some l ∧ s.arb.nextPosition ≤ l.position ∧ l.tick = s.tc.count + 1)
              ∧ (∀ (j : LineId) l m, j < k → (src j).state = .quiet → occurs j →
                  (t.src (lineSource j)).latch = some l → y.latch = some m → l.position < m.position))
          ∧ (x.state = .quiet → occurs k → (∀ j : LineId, j < k → ¬occurs j) →
              (¬compounds k → (∀ cause, ¬locks k cause) →
                y.state = .pending ∧ y.count = 1 ∧ level y.detail
                ∧ y.latch = some { position := s.arb.nextPosition, tick := s.tc.count + 1 }
                ∧ y.expired = false ∧ y.w0 = x.w0 ∧ y.w1 = x.w1 ∧ y.w2 = x.w2
                ∧ i ∈ t.arb.waiting.map (·.source)
                ∧ (x.w1.getLsbD 4 = true → t.masked i = true))
              ∧ (compounds k →
                y.state = .absorbed ∧ y.count = 1 ∧ level y.detail
                ∧ y.latch = some { position := s.arb.nextPosition, tick := s.tc.count + 1 }
                ∧ y.w0 = x.w0 ∧ y.w1 = x.w1 ∧ y.w2 = x.w2
                ∧ i ∉ t.arb.waiting.map (·.source) ∧ t.masked i = s.masked i
                ∧ (s.svc.stack.length < 4 →
                    t.svc.stack =
                      { source := compoundId, announced := false
                        deadline := if units = 0 then .none else .runningDown (units * 100) } :: s.svc.stack
                    ∧ t.svc.comprec0 = (s.stackField 0).zeroExtend 8 ++ (sourceBits i).zeroExtend 8
                    ∧ t.svc.comprec1 = (s.tc.count + 1).extractLsb' 0 16)
                ∧ (s.svc.stack.length = 4 → t.mc.mode = .lockdown ∧ t.svc = s.svc
                    ∧ t.mc.lockrec = 4#4 ++ 0#2 ++ sourceBits i ++ s.stackField 0))
              ∧ ((∀ cause, ¬locks k cause) → x.reactWhen = .atLatch →
                ∃ b, (t.set (setOf x.reactionSet.toNat)).binding = some b ∧ i ∈ b)
              ∧ (∀ cause, locks k cause →
                t.mc.mode = .lockdown ∧ t.mc.lockrec = cause ++ 0#2 ++ sourceBits i ++ s.stackField 0
                ∧ t.mc.locktick = (s.tc.count + 1).extractLsb' 0 16
                ∧ t.srcs = s.srcs ∧ t.arb.waiting = s.arb.waiting ∧ t.svc = s.svc ∧ t.dl = s.dl
                ∧ t.act.sets = s.act.sets ∧ t.act.effective = s.act.safe)))

/-- A tick in Running at which no line's source has an occurrence and nothing expires. While the mode stays Running it
counts the service deadline of the top, the claim deadlines of the eligible entries, and the watchdog, each by one; an
entry that joins the list, or is pushed, at this tick keeps its full remainder, and the entry it covers keeps its own
(R93, R128, R132, R137). Where no record arises, because no channel joins the mismatch set or MISMATCH is not Quiet, the
order of the list, the rest of the stack, the reactions and the journal stay as they were too, and with nothing to check
the sources as well. In any case the readback comparison runs, and the channels that join the mismatch set at this tick,
if there are any, are one occurrence of MISMATCH with them as detail word: none while it is Disarmed, counted while it
is Pending or Absorbed, kept back or discarded while it is Serving; and a Quiet MISMATCH, a Fault, is weighed against the
stack (R114 to R117, R147 to R150). -/
def Obligations.RunningTickCountsDeadlines : Prop :=
  ∀ (s : State) (lines : BitVec 24) (readback : Word),
    s.Legal → s.rst.held = false → s.rst.intervalLeft = 0 → s.mc.mode = .running → s.link.phase ≠ .shifting →
    (∀ k : LineId, (sampleInputs lines readback s).lineOccurs (s.changedLines lines) k = false) →
    (∀ e rest, s.svc.stack = e :: rest → e.deadline ≠ .runningDown 0 ∧ e.deadline ≠ .runningDown 1) →
    (∀ e ∈ s.arb.waiting, e.deadline ≠ .runningDown 0 ∧ e.deadline ≠ .runningDown 1) →
    s.dl.watchdog ≠ some 0 → s.dl.watchdog ≠ some 1 →
      let less : Deadline → Deadline
        | .runningDown n => .runningDown (n - 1)
        | .none => .none
        | .spent => .spent
      let counted (e : PendEntry) : PendEntry :=
        { e with deadline := if s.eligible e.source then less e.deadline else e.deadline }
      let stack : List StackEntry := match s.svc.stack with
        | [] => []
        | e :: rest => { e with deadline := less e.deadline } :: rest
      ∃ t, exec (.scanTick lines readback) s = .next t
        ∧ t.tc.count = s.tc.count + 1
        ∧ (s.act.rbcheck = 0 →
          t.act.mismatchSet &&& ~~~s.act.mismatchSet = 0 ∧ t.srcs = s.srcs ∧ t.link = s.link)
        ∧ (t.act.mismatchSet &&& ~~~s.act.mismatchSet = 0 ∨ (s.src mismatchId).state ≠ .quiet →
          t.jn = s.jn ∧ t.act.sets = s.act.sets ∧ t.act.frozen = s.act.frozen
          ∧ t.act.frozenLevel = s.act.frozenLevel ∧ t.mc = s.mc ∧ t.regs = s.regs
          ∧ t.link = { s.link with
              hold := s.link.hold.map fun h =>
                { h with changed := h.changed || (h.index == 0x27 && t.act.mismatchDet != s.act.mismatchDet) } }
          ∧ t.svc = { s.svc with stack := stack }
          ∧ t.arb = { s.arb with alert := t.arb.alert, waiting := s.arb.waiting.map counted })
        ∧ (t.mc.mode = .running →
          t.dl.watchdog = s.dl.watchdog.map (· - 1)
          ∧ (t.svc.stack = stack ∨ t.svc.stack =
              { source := compoundId, announced := false
                deadline := Deadline.loaded ((s.src compoundId).w2.extractLsb' 0 8).toNat 100 } :: s.svc.stack)
          ∧ (∀ p : PendEntry, p ∈ t.arb.waiting ↔ p ∈ s.arb.waiting.map counted
              ∨ ((s.src p.source).state ≠ .pending ∧ (t.src p.source).state = .pending
                ∧ p.deadline = Deadline.loaded ((s.src p.source).w2.extractLsb' 8 8).toNat 10)))
        ∧ (let joined := t.act.mismatchSet &&& ~~~s.act.mismatchSet
           let x := s.src mismatchId
           let units := ((s.src compoundId).w2.extractLsb' 0 8).toNat
           (∀ c : Channel,
              let n := s.act.counters.get c
              let differs := readback.getLsbD c.val != s.act.effective.getLsbD c.val
              let window := (s.regs.policy.extractLsb' 8 4).toNat
              (t.act.counters.get c, t.act.mismatchSet.getLsbD c.val) =
                if s.act.rbcheck.getLsbD c.val = false then (0, false)
                else if s.act.mismatchSet.getLsbD c.val then (if differs then (n, true) else (0, false))
                else if s.act.moved.getLsbD c.val || !differs then (0, false)
                else (n + 1, decide (window ≤ n + 1)))
           ∧ t.act.mismatchDet = s.act.mismatchDet ||| joined
           ∧ t.act.moved = s.act.effective ^^^ t.act.effective
           ∧ (joined = 0 ∨ x.state = .disarmed → t.srcs = s.srcs ∧ t.mc = s.mc)
           ∧ (joined ≠ 0 → x.state = .pending ∨ x.state = .absorbed →
              t.srcs = (s.setSrc mismatchId
                { x with count := BitVec.ofNat 8 (min 255 (x.count.toNat + 1)), detail := joined }).srcs)
           ∧ (joined ≠ 0 → x.state = .serving →
              (x.w1.getLsbD 6 = true → t.srcs = (s.setSrc mismatchId
                { x with repeatCount := BitVec.ofNat 8 (min 255 (x.repeatCount.toNat + 1)), detail := joined }).srcs)
              ∧ (x.w1.getLsbD 6 = false → t.srcs = s.srcs))
           ∧ (joined ≠ 0 → x.state = .quiet → (s.severity = 0 ∨ (s.severity ≠ 3 ∧ s.compoundEnable = false)) →
              t.mc.mode = .running ∧ (t.src mismatchId).state = .pending ∧ (t.src mismatchId).count = 1
              ∧ (t.src mismatchId).detail = joined
              ∧ (t.src mismatchId).latch = some { position := s.arb.nextPosition, tick := s.tc.count + 1 }
              ∧ mismatchId ∈ t.arb.waiting.map (·.source)
              ∧ (x.reactWhen = .atLatch →
                  ∃ b, (t.set (setOf x.reactionSet.toNat)).binding = some b ∧ mismatchId ∈ b))
           ∧ (joined ≠ 0 → x.state = .quiet → (s.severity = 1 ∨ s.severity = 2) → s.compoundEnable = true →
              (t.src mismatchId).state = .absorbed ∧ (t.src mismatchId).count = 1
              ∧ (t.src mismatchId).detail = joined
              ∧ (s.svc.stack.length < 4 → t.mc.mode = .running
                  ∧ t.svc.stack =
                    { source := compoundId, announced := false
                      deadline := if units = 0 then .none else .runningDown (units * 100) } :: s.svc.stack
                  ∧ t.svc.comprec0 = (s.stackField 0).zeroExtend 8 ++ 29#8)
              ∧ (s.svc.stack.length = 4 → t.mc.mode = .lockdown ∧ t.svc = s.svc
                  ∧ t.mc.lockrec = 4#4 ++ 0#2 ++ 29#5 ++ s.stackField 0))
           ∧ (joined ≠ 0 → x.state = .quiet → s.severity = 3 →
              t.mc.mode = .lockdown ∧ t.mc.lockrec = 2#4 ++ 0#2 ++ 29#5 ++ s.stackField 0
              ∧ t.srcs = s.srcs ∧ t.svc = s.svc ∧ t.arb.waiting = s.arb.waiting ∧ t.dl = s.dl))

/-- The expiry of the service deadline of an ordinary top spends it and marks the source, which stays in service, and
is an occurrence of OVERRUN with the source as detail word: a Pending OVERRUN is counted, a Serving one keeps it back or
discards it; a Quiet one over a Notice latches, and over a Fault or a Critical it latches where compounding is not
enabled, and where it is enabled it is absorbed, with a COMPOUND entry pushed or, on a full stack, with Lockdown for
cause 4 (R133, R134). The last clause has the same of a tick whose count of the top ends its deadline, with the entries
that this loads at their full remainders (R93, R132). -/
def Obligations.ServiceExpiryRaisesOverrun : Prop :=
  ∀ (s : State) (e : StackEntry) (rest : List StackEntry) (n : Nat),
    let x := s.src overrunId
    let units := ((s.src compoundId).w2.extractLsb' 0 8).toNat
    let spent : List StackEntry := { e with deadline := .spent } :: rest
    let marked : State := State.setSrc { s with svc := { s.svc with stack := spent } }
      e.source { s.src e.source with overrun := true }
    s.mc.mode = .running → s.svc.stack = e :: rest → e.deadline = .runningDown n → e.source ≠ overrunId →
    e.source ≠ compoundId →
      (x.state = .pending ∨ x.state = .absorbed →
        exec .serviceDeadlineExpiry s = .next (endHappening (marked.setSrc overrunId
          { x with
            count := BitVec.ofNat 8 (min 255 (x.count.toNat + 1))
            detail := (sourceBits e.source).zeroExtend 16 })))
      ∧ (x.state = .serving → x.w1.getLsbD 6 = true →
        exec .serviceDeadlineExpiry s = .next (endHappening (marked.setSrc overrunId
          { x with
            repeatCount := BitVec.ofNat 8 (min 255 (x.repeatCount.toNat + 1))
            detail := (sourceBits e.source).zeroExtend 16 })))
      ∧ (x.state = .serving → x.w1.getLsbD 6 = false →
        exec .serviceDeadlineExpiry s = .next (endHappening marked))
      ∧ (x.state = .quiet → s.Legal →
        (s.rank e.source = 0 ∨ ((s.rank e.source = 1 ∨ s.rank e.source = 2) ∧ s.compoundEnable = false)) →
        ∃ t, exec .serviceDeadlineExpiry s = .next t
          ∧ (t.src e.source).overrun = true ∧ (t.src e.source).state = (s.src e.source).state
          ∧ t.svc = { s.svc with stack := spent }
          ∧ (t.src overrunId).state = .pending ∧ (t.src overrunId).count = 1
          ∧ (t.src overrunId).detail = (sourceBits e.source).zeroExtend 16 ∧ t.mc.mode = .running
          ∧ overrunId ∈ t.arb.waiting.map (·.source)
          ∧ (x.reactWhen = .atLatch →
              ∃ b, (t.set (setOf x.reactionSet.toNat)).binding = some b ∧ overrunId ∈ b))
      ∧ (x.state = .quiet → s.Legal → (s.rank e.source = 1 ∨ s.rank e.source = 2) → s.compoundEnable = true →
        ∃ t, exec .serviceDeadlineExpiry s = .next t
          ∧ (t.src e.source).overrun = true ∧ (t.src e.source).state = (s.src e.source).state
          ∧ (t.src overrunId).state = .absorbed ∧ (t.src overrunId).count = 1
          ∧ (t.src overrunId).detail = (sourceBits e.source).zeroExtend 16
          ∧ (rest.length < 3 → t.mc.mode = .running ∧ t.arb.alert = true
              ∧ t.svc.stack =
                  { source := compoundId, announced := false
                    deadline := if units = 0 then .none else .runningDown (units * 100) } :: spent
              ∧ t.svc.comprec0 = (sourceBits e.source).zeroExtend 8 ++ 25#8
              ∧ t.svc.comprec1 = s.tc.count.extractLsb' 0 16)
          ∧ (rest.length = 3 → t.mc.mode = .lockdown ∧ t.svc = { s.svc with stack := spent }
              ∧ t.mc.lockrec = 4#4 ++ 0#2 ++ 25#5 ++ sourceBits e.source))
      ∧ (∀ (lines : BitVec 24) (readback : Word), s.CountingTick lines readback → n = 1 →
        ∃ t, exec (.scanTick lines readback) s = .next t
          ∧ t.tc.count = s.tc.count + 1
          ∧ (t.src e.source).overrun = true ∧ (t.src e.source).state = (s.src e.source).state
          ∧ (let y := t.src overrunId
             let compounds : Prop := x.state = .quiet ∧ s.rank e.source ≠ 0 ∧ s.compoundEnable = true
             (¬compounds → t.svc = { s.svc with stack := spent })
             ∧ (x.state = .pending ∨ x.state = .absorbed →
                y.state = x.state ∧ y.count = BitVec.ofNat 8 (min 255 (x.count.toNat + 1))
                ∧ y.detail = (sourceBits e.source).zeroExtend 16)
             ∧ (x.state = .serving → x.w1.getLsbD 6 = true →
                y = { x with
                  repeatCount := BitVec.ofNat 8 (min 255 (x.repeatCount.toNat + 1))
                  detail := (sourceBits e.source).zeroExtend 16 })
             ∧ (x.state = .serving → x.w1.getLsbD 6 = false → y = x)
             ∧ (x.state = .quiet → y.count = 1 ∧ y.detail = (sourceBits e.source).zeroExtend 16
                ∧ y.latch = some { position := s.arb.nextPosition, tick := s.tc.count + 1 })
             ∧ (x.state = .quiet → ¬compounds →
                y.state = .pending
                ∧ { source := overrunId, deadline := Deadline.loaded (x.w2.extractLsb' 8 8).toNat 10 } ∈ t.arb.waiting)
             ∧ (compounds →
                y.state = .absorbed
                ∧ (rest.length < 3 → t.svc.comprec0 = (sourceBits e.source).zeroExtend 8 ++ 25#8
                  ∧ t.svc.stack =
                    { source := compoundId, announced := false, deadline := Deadline.loaded units 100 } :: spent)
                ∧ (rest.length = 3 → t.mc.mode = .lockdown ∧ t.svc = { s.svc with stack := spent } ∧ t.dl = s.dl
                  ∧ t.mc.lockrec = 4#4 ++ 0#2 ++ 25#5 ++ sourceBits e.source))))

/-- The expiry of the service deadline of an OVERRUN or COMPOUND top enters Lockdown with cause 5, the second source
being the one below the top, or the top's own on a stack of one; no mark is set and no occurrence arises, and at a tick
whose count of the top ends its deadline the steps that remain are abandoned (R94, R123, R132, R135). -/
def Obligations.NestedOverrunLocksDown : Prop :=
  ∀ (s : State) (e : StackEntry) (rest : List StackEntry) (n : Nat),
    s.mc.mode = .running → s.svc.stack = e :: rest → e.deadline = .runningDown n →
    (e.source = overrunId ∨ e.source = compoundId) →
      let second := match rest with | below :: _ => sourceBits below.source | [] => sourceBits e.source
      exec .nestedOverrun s = .next (endHappening
        (State.lockedBy { s with svc := { s.svc with stack := { e with deadline := .spent } :: rest } }
          5 (some e.source) second))
      ∧ (∀ (lines : BitVec 24) (readback : Word), s.CountingTick lines readback → n = 1 →
        ∃ t, exec (.scanTick lines readback) s = .next t
          ∧ t.tc.count = s.tc.count + 1
          ∧ t.mc.mode = .lockdown ∧ t.mc.lockrec = 5#4 ++ 0#2 ++ sourceBits e.source ++ second
          ∧ t.mc.locktick = (s.tc.count + 1).extractLsb' 0 16 ∧ t.mc.causeSeen = false
          ∧ t.svc = { s.svc with stack := { e with deadline := .spent } :: rest }
          ∧ t.srcs = s.srcs ∧ t.arb.waiting = s.arb.waiting ∧ t.dl = s.dl ∧ t.act.sets = s.act.sets
          ∧ t.arb.alert = true ∧ t.act.effective = s.act.safe)

/-- The expiry of the claim deadline of an eligible entry spends it and marks the source, which stays Pending in its
place; with a Pending STALE the occurrence is counted with the source as detail word, with a Serving one it is kept back
or discarded, with a Disarmed one there is none, and a Quiet STALE latches as a Notice, whatever the stack holds; an
AtDeadline source applies its set (R128, R129). The last clause has the same of a tick at which the top's deadline does
not end: every eligible entry is counted, each of those whose count ends it expires, and STALE has one occurrence for
each, in the order of the list (R93, R128). -/
def Obligations.ClaimExpiryMarksAndRaisesStale : Prop :=
  ∀ (s : State) (i : SourceId) (n : Nat) (e : PendEntry),
    let x := s.src staleId
    s.mc.mode = .running → e ∈ s.arb.waiting → e.source = i → (∀ p ∈ s.arb.waiting, p.source = i → p = e) →
    e.deadline = .runningDown n → s.eligible i = true → i ≠ staleId →
      let marked := State.setSrc
        { s with arb := { s.arb with waiting := s.arb.waiting.map fun p =>
            if p.source = i then { p with deadline := .spent } else p } }
        i { s.src i with expired := true }
      ((s.src i).reactWhen ≠ .atDeadline →
        (x.state = .disarmed →
          exec (.claimDeadlineExpiry (sourceBits i)) s = .next (endHappening marked))
        ∧ (x.state = .pending →
          exec (.claimDeadlineExpiry (sourceBits i)) s = .next (endHappening (marked.setSrc staleId
            { x with
              count := BitVec.ofNat 8 (min 255 (x.count.toNat + 1))
              detail := (sourceBits i).zeroExtend 16 })))
        ∧ (x.state = .serving → x.w1.getLsbD 6 = true →
          exec (.claimDeadlineExpiry (sourceBits i)) s = .next (endHappening (marked.setSrc staleId
            { x with
              repeatCount := BitVec.ofNat 8 (min 255 (x.repeatCount.toNat + 1))
              detail := (sourceBits i).zeroExtend 16 })))
        ∧ (x.state = .serving → x.w1.getLsbD 6 = false →
          exec (.claimDeadlineExpiry (sourceBits i)) s = .next (endHappening marked)))
      ∧ (x.state = .quiet → s.Legal →
        ∃ t, exec (.claimDeadlineExpiry (sourceBits i)) s = .next t
          ∧ (t.src i).expired = true ∧ (t.src i).state = (s.src i).state
          ∧ { e with deadline := .spent } ∈ t.arb.waiting
          ∧ (t.src staleId).state = .pending ∧ (t.src staleId).count = 1
          ∧ (t.src staleId).detail = (sourceBits i).zeroExtend 16
          ∧ (t.src staleId).latch = some { position := s.arb.nextPosition, tick := s.tc.count }
          ∧ staleId ∈ t.arb.waiting.map (·.source) ∧ t.svc = s.svc ∧ t.mc = s.mc
          ∧ ((s.src i).reactWhen = .atDeadline →
              ∃ b, (t.set (setOf (s.src i).reactionSet.toNat)).binding = some b ∧ i ∈ b)
          ∧ ((s.src i).reactWhen ≠ .atDeadline → t.act.sets = s.act.sets))
      ∧ ((s.src i).reactWhen = .atDeadline → (s.src i).reactionSet ≠ 0 → s.calm 1 →
          x.state = .disarmed →
          ∃ t, exec (.claimDeadlineExpiry (sourceBits i)) s = .next t
            ∧ (∃ b, (t.set (setOf (s.src i).reactionSet.toNat)).binding = some b ∧ i ∈ b)
            ∧ t.srcs = marked.srcs ∧ t.arb.waiting = marked.arb.waiting
            ∧ t.jn = (State.wrote s .reactApply (some i) ((s.src i).reactionSet.zeroExtend 16)).jn
            ∧ (∀ c : Channel,
                (s.set (setOf (s.src i).reactionSet.toNat)).action c = .freeze →
                  t.act.frozen.getLsbD c.val = true
                  ∧ t.act.frozenLevel.getLsbD c.val =
                    if s.act.frozen.getLsbD c.val then s.act.frozenLevel.getLsbD c.val
                    else s.act.effective.getLsbD c.val))
      ∧ (∀ (lines : BitVec 24) (readback : Word), s.CountingTick lines readback → n = 1 →
          (∀ top rest, s.svc.stack = top :: rest → top.deadline.due = false) →
          let due := s.arb.waiting.filter fun p => s.eligible p.source && p.deadline.due
          let last : Word := match due.getLast? with | some p => (sourceBits p.source).zeroExtend 16 | none => 0
          ∃ t, exec (.scanTick lines readback) s = .next t
            ∧ t.tc.count = s.tc.count + 1
            ∧ (∀ p ∈ s.arb.waiting,
                { p with deadline := if s.eligible p.source then p.deadline.counted else p.deadline } ∈ t.arb.waiting
                ∧ (t.src p.source).state = .pending)
            ∧ (∀ p ∈ due, (t.src p.source).expired = true
                ∧ ((s.src p.source).reactWhen = .atDeadline →
                    ∃ b, (t.set (setOf (s.src p.source).reactionSet.toNat)).binding = some b ∧ p.source ∈ b))
            ∧ (x.state = .disarmed → t.src staleId = x)
            ∧ (x.state = .pending →
                (t.src staleId).count = BitVec.ofNat 8 (min 255 (x.count.toNat + due.length))
                ∧ (t.src staleId).detail = last)
            ∧ (x.state = .serving → x.w1.getLsbD 6 = true →
                t.src staleId = { x with
                  repeatCount := BitVec.ofNat 8 (min 255 (x.repeatCount.toNat + due.length)), detail := last })
            ∧ (x.state = .serving → x.w1.getLsbD 6 = false → t.src staleId = x)
            ∧ (x.state = .quiet →
                (t.src staleId).state = .pending ∧ (t.src staleId).detail = last
                ∧ (t.src staleId).count = BitVec.ofNat 8 due.length
                ∧ (t.src staleId).latch = some { position := s.arb.nextPosition, tick := s.tc.count + 1 }
                ∧ { source := staleId, deadline := .none } ∈ t.arb.waiting))

/-- The expiry of the watchdog stops it and is an occurrence of SILENCE with detail word 0, which leaves no trace
while SILENCE is Disarmed, is counted while it is Pending, and is kept back or discarded while it is Serving. A Quiet
SILENCE, a Critical, latches over an empty stack, a Notice or a Fault, applying its set if it reacts at its latch, and
locks the node down with cause 1 over a Critical and with cause 3 over COMPOUND (R114, R123, R137). The expiry commands
stand apart from the count by the model's choice (notes/assumptions/5.md); the last clause has the same of a tick that
counts the watchdog to its end while the top's deadline does not end. -/
def Obligations.WatchdogExpiryRaisesSilence : Prop :=
  ∀ (s : State) (n : Nat), s.mc.mode = .running → s.dl.watchdog = some n →
    let x := s.src silenceId
    let stopped : State := { s with dl := { s.dl with watchdog := none } }
    (x.state = .disarmed → exec .watchdogExpiry s = .next (endHappening stopped))
    ∧ (x.state = .pending →
      exec .watchdogExpiry s = .next (endHappening (stopped.setSrc silenceId
        { x with count := BitVec.ofNat 8 (min 255 (x.count.toNat + 1)), detail := 0 })))
    ∧ (x.state = .serving → x.w1.getLsbD 6 = true →
      exec .watchdogExpiry s = .next (endHappening (stopped.setSrc silenceId
        { x with repeatCount := BitVec.ofNat 8 (min 255 (x.repeatCount.toNat + 1)), detail := 0 })))
    ∧ (x.state = .serving → x.w1.getLsbD 6 = false → exec .watchdogExpiry s = .next (endHappening stopped))
    ∧ (s.Legal → x.state = .quiet →
        (s.svc.stack = [] ∨ ∃ top rest, s.svc.stack = top :: rest ∧ s.rank top.source ≤ 1) →
        ∃ t, exec .watchdogExpiry s = .next t
          ∧ (t.src silenceId).state = .pending ∧ (t.src silenceId).count = 1 ∧ (t.src silenceId).detail = 0
          ∧ (t.src silenceId).latch = some { position := s.arb.nextPosition, tick := s.tc.count }
          ∧ silenceId ∈ t.arb.waiting.map (·.source) ∧ t.svc = s.svc ∧ t.mc = s.mc ∧ t.dl.watchdog = none
          ∧ (x.reactWhen = .atLatch →
              ∃ b, (t.set (setOf x.reactionSet.toNat)).binding = some b ∧ silenceId ∈ b)
          ∧ (x.reactWhen ≠ .atLatch → t.act.sets = s.act.sets))
    ∧ (∀ top rest, s.Legal → x.state = .quiet → s.svc.stack = top :: rest → s.rank top.source = 2 →
        exec .watchdogExpiry s = .next (endHappening
          (stopped.lockedBy 1 (some silenceId) (sourceBits top.source))))
    ∧ (∀ top rest, s.Legal → x.state = .quiet → s.svc.stack = top :: rest → top.source = compoundId →
        exec .watchdogExpiry s = .next (endHappening (stopped.lockedBy 3 (some silenceId) 28)))
    ∧ (∀ (lines : BitVec 24) (readback : Word), s.CountingTick lines readback → n = 1 →
        (∀ top rest, s.svc.stack = top :: rest → top.deadline.due = false) →
        ∃ t, exec (.scanTick lines readback) s = .next t
          ∧ t.tc.count = s.tc.count + 1 ∧ t.dl.watchdog = none
          ∧ (let y := t.src silenceId
             let locks : Prop := x.state = .quiet ∧ (s.severity = 2 ∨ s.severity = 3)
             (¬locks → t.mc = s.mc)
             ∧ (x.state = .disarmed → y = x)
             ∧ (x.state = .pending →
                y.state = .pending ∧ y.count = BitVec.ofNat 8 (min 255 (x.count.toNat + 1)) ∧ y.detail = 0)
             ∧ (x.state = .serving → x.w1.getLsbD 6 = true →
                y = { x with repeatCount := BitVec.ofNat 8 (min 255 (x.repeatCount.toNat + 1)), detail := 0 })
             ∧ (x.state = .serving → x.w1.getLsbD 6 = false → y = x)
             ∧ (x.state = .quiet → ¬locks →
                y.state = .pending ∧ y.count = 1 ∧ y.detail = 0
                ∧ (∃ l, y.latch = some l ∧ s.arb.nextPosition ≤ l.position ∧ l.tick = s.tc.count + 1)
                ∧ { source := silenceId, deadline := Deadline.loaded (x.w2.extractLsb' 8 8).toNat 10 } ∈ t.arb.waiting
                ∧ (x.reactWhen = .atLatch →
                    ∃ b, (t.set (setOf x.reactionSet.toNat)).binding = some b ∧ silenceId ∈ b))
             ∧ (locks →
                y = x ∧ t.mc.mode = .lockdown ∧ t.arb.alert = true ∧ t.act.effective = s.act.safe
                ∧ t.mc.lockrec = (if s.severity = 2 then 1#4 else 3#4) ++ 0#2 ++ 31#5 ++ s.stackField 0)))

/-! ## Invariants -/

/-- The state that power-on reset leaves has all the invariants. -/
def Obligations.ResetStateIsLegal : Prop := State.reset.Legal

/-- Every step keeps what the pins and the bounded collections show (R78, R91, R92, R96, R144, R155). Where they show it,
each channel drives its safe level outside Running; in Running its safe level where an active set gives it Safe, else
its frozen level where one gives it Freeze, and else its operate level (R143); and ALERT is asserted in Lockdown, and in
Running exactly where an entry is claimable or an unannounced COMPOUND entry stands on the stack (R90, R91). -/
def Obligations.StepKeepsPinsAndBounds : Prop :=
  (∀ s t : State, s.AtRest → step s = .next t → t.AtRest)
  ∧ ∀ s : State, s.AtRest →
    let gives (c : Channel) (code : BitVec 2) : Prop := ∃ k : SetId, (s.set k).binding ≠ none
      ∧ (if c.val < 8 then (s.set k).wordA.extractLsb' (2 * c.val) 2
         else (s.set k).wordB.extractLsb' (2 * (c.val - 8)) 2) = code
    (∀ c : Channel,
      (s.mc.mode ≠ .running ∨ gives c 2 → s.act.effective.getLsbD c.val = s.act.safe.getLsbD c.val)
      ∧ (s.mc.mode = .running → ¬gives c 2 → gives c 1 →
          s.act.effective.getLsbD c.val = s.act.frozenLevel.getLsbD c.val)
      ∧ (s.mc.mode = .running → ¬gives c 2 → ¬gives c 1 →
          s.act.effective.getLsbD c.val = s.act.operate.getLsbD c.val))
    ∧ (s.arb.alert = true ↔ s.mc.mode = .lockdown
        ∨ (s.mc.mode = .running ∧ ((∃ e ∈ s.arb.waiting, s.claimable e.source = true)
            ∨ ∃ e ∈ s.svc.stack, e.source = compoundId ∧ e.announced = false)))

/-- Every step keeps the link in one of its states, with LDO released outside Shifting and the link Barred through a
reset (R1, R2, R5, R18, R54). -/
def Obligations.StepKeepsLinkLegal : Prop :=
  ∀ s t : State, s.LinkLegal → step s = .next t → t.LinkLegal

/-- Every step keeps the fields that no write can give another value, COMPOUND's react-when among them, and keeps a
channel frozen exactly while an active set freezes it (R31, R67, R139, R140, R161 to R163). -/
def Obligations.StepKeepsFieldsAndFreezes : Prop :=
  (∀ s t : State, s.FieldsLegal → step s = .next t → t.FieldsLegal)
  ∧ (∀ s t : State, s.FreezesLegal → step s = .next t → t.FreezesLegal)

/-- Every step keeps the agreement of the source states, the pending list and the service stack, and armed sources
valid (R39, R70, R79, R83, R86, R87, R96, R109, R117, R119, R120). -/
def Obligations.StepKeepsEventsAgree : Prop :=
  ∀ s t : State, s.Legal → step s = .next t → t.EventsAgree ∧ t.ArmedValid

/-- In Lockdown, whatever is commanded but a hard reset, the node stays in Lockdown with ALERT asserted, every output
at its safe level and all evidence as it was, but for the journal records taken; or it leaves for Configuring, by a
command that had to find cause-seen set (R41, R46, R126). -/
def Obligations.LockdownKeepsEvidenceUntilAcknowledged : Prop :=
  ∀ (s t : State) (c : Instr), s.mc.mode = .lockdown → s.AtRest → isHardReset c = false → exec c s = .next t →
    (t.mc.mode = .lockdown ∧ s.SameEvidence t ∧ (∃ n, t.jn.unread = s.jn.unread.drop n)
      ∧ (s.mc.causeSeen = true → t.mc.causeSeen = true)
      ∧ t.arb.alert = true ∧ t.act.effective = s.act.safe)
    ∨ (t.mc.mode = .configuring ∧ s.mc.causeSeen = true)
end

