-- ==== Sys2Proof/Laws/State.lean ====
section
/-! SUPPORT. What each update of the state leaves and sets, one lemma for each field, so that no proof unfolds a record
update; and the reads of the source table and of the reaction-set table after a write. -/

namespace Sys2Proof.Machine

/-! ## setSrc -/

@[simp] theorem setSrc_pending (s : State) (i : SourceId) (x : Source) : (s.setSrc i x).pending = s.pending := rfl
@[simp] theorem setSrc_link (s : State) (i : SourceId) (x : Source) : (s.setSrc i x).link = s.link := rfl
@[simp] theorem setSrc_rst (s : State) (i : SourceId) (x : Source) : (s.setSrc i x).rst = s.rst := rfl
@[simp] theorem setSrc_regs (s : State) (i : SourceId) (x : Source) : (s.setSrc i x).regs = s.regs := rfl
@[simp] theorem setSrc_mc (s : State) (i : SourceId) (x : Source) : (s.setSrc i x).mc = s.mc := rfl
@[simp] theorem setSrc_scan (s : State) (i : SourceId) (x : Source) : (s.setSrc i x).scan = s.scan := rfl
@[simp] theorem setSrc_arb (s : State) (i : SourceId) (x : Source) : (s.setSrc i x).arb = s.arb := rfl
@[simp] theorem setSrc_svc (s : State) (i : SourceId) (x : Source) : (s.setSrc i x).svc = s.svc := rfl
@[simp] theorem setSrc_dl (s : State) (i : SourceId) (x : Source) : (s.setSrc i x).dl = s.dl := rfl
@[simp] theorem setSrc_act (s : State) (i : SourceId) (x : Source) : (s.setSrc i x).act = s.act := rfl
@[simp] theorem setSrc_jn (s : State) (i : SourceId) (x : Source) : (s.setSrc i x).jn = s.jn := rfl
@[simp] theorem setSrc_tc (s : State) (i : SourceId) (x : Source) : (s.setSrc i x).tc = s.tc := rfl
@[simp] theorem setSrc_srcs_mask (s : State) (i : SourceId) (x : Source) :
    (s.setSrc i x).srcs.mask = s.srcs.mask := rfl

/-! ## putSet -/

@[simp] theorem putSet_pending (s : State) (k : SetId) (x : ReactionSet) : (s.putSet k x).pending = s.pending := rfl
@[simp] theorem putSet_link (s : State) (k : SetId) (x : ReactionSet) : (s.putSet k x).link = s.link := rfl
@[simp] theorem putSet_rst (s : State) (k : SetId) (x : ReactionSet) : (s.putSet k x).rst = s.rst := rfl
@[simp] theorem putSet_regs (s : State) (k : SetId) (x : ReactionSet) : (s.putSet k x).regs = s.regs := rfl
@[simp] theorem putSet_mc (s : State) (k : SetId) (x : ReactionSet) : (s.putSet k x).mc = s.mc := rfl
@[simp] theorem putSet_scan (s : State) (k : SetId) (x : ReactionSet) : (s.putSet k x).scan = s.scan := rfl
@[simp] theorem putSet_srcs (s : State) (k : SetId) (x : ReactionSet) : (s.putSet k x).srcs = s.srcs := rfl
@[simp] theorem putSet_arb (s : State) (k : SetId) (x : ReactionSet) : (s.putSet k x).arb = s.arb := rfl
@[simp] theorem putSet_svc (s : State) (k : SetId) (x : ReactionSet) : (s.putSet k x).svc = s.svc := rfl
@[simp] theorem putSet_dl (s : State) (k : SetId) (x : ReactionSet) : (s.putSet k x).dl = s.dl := rfl
@[simp] theorem putSet_jn (s : State) (k : SetId) (x : ReactionSet) : (s.putSet k x).jn = s.jn := rfl
@[simp] theorem putSet_tc (s : State) (k : SetId) (x : ReactionSet) : (s.putSet k x).tc = s.tc := rfl
@[simp] theorem putSet_act_operate (s : State) (k : SetId) (x : ReactionSet) :
    (s.putSet k x).act.operate = s.act.operate := rfl
@[simp] theorem putSet_act_safe (s : State) (k : SetId) (x : ReactionSet) :
    (s.putSet k x).act.safe = s.act.safe := rfl
@[simp] theorem putSet_act_effective (s : State) (k : SetId) (x : ReactionSet) :
    (s.putSet k x).act.effective = s.act.effective := rfl
@[simp] theorem putSet_act_moved (s : State) (k : SetId) (x : ReactionSet) :
    (s.putSet k x).act.moved = s.act.moved := rfl
@[simp] theorem putSet_act_frozen (s : State) (k : SetId) (x : ReactionSet) :
    (s.putSet k x).act.frozen = s.act.frozen := rfl
@[simp] theorem putSet_act_frozenLevel (s : State) (k : SetId) (x : ReactionSet) :
    (s.putSet k x).act.frozenLevel = s.act.frozenLevel := rfl
@[simp] theorem putSet_act_rbcheck (s : State) (k : SetId) (x : ReactionSet) :
    (s.putSet k x).act.rbcheck = s.act.rbcheck := rfl
@[simp] theorem putSet_act_counters (s : State) (k : SetId) (x : ReactionSet) :
    (s.putSet k x).act.counters = s.act.counters := rfl
@[simp] theorem putSet_act_mismatchSet (s : State) (k : SetId) (x : ReactionSet) :
    (s.putSet k x).act.mismatchSet = s.act.mismatchSet := rfl
@[simp] theorem putSet_act_mismatchDet (s : State) (k : SetId) (x : ReactionSet) :
    (s.putSet k x).act.mismatchDet = s.act.mismatchDet := rfl

/-! ## setMode -/

@[simp] theorem setMode_pending (m : Mode) (s : State) : (setMode m s).pending = s.pending := rfl
@[simp] theorem setMode_link (m : Mode) (s : State) : (setMode m s).link = s.link := rfl
@[simp] theorem setMode_rst (m : Mode) (s : State) : (setMode m s).rst = s.rst := rfl
@[simp] theorem setMode_regs (m : Mode) (s : State) : (setMode m s).regs = s.regs := rfl
@[simp] theorem setMode_scan (m : Mode) (s : State) : (setMode m s).scan = s.scan := rfl
@[simp] theorem setMode_srcs (m : Mode) (s : State) : (setMode m s).srcs = s.srcs := rfl
@[simp] theorem setMode_arb (m : Mode) (s : State) : (setMode m s).arb = s.arb := rfl
@[simp] theorem setMode_svc (m : Mode) (s : State) : (setMode m s).svc = s.svc := rfl
@[simp] theorem setMode_dl (m : Mode) (s : State) : (setMode m s).dl = s.dl := rfl
@[simp] theorem setMode_act (m : Mode) (s : State) : (setMode m s).act = s.act := rfl
@[simp] theorem setMode_jn (m : Mode) (s : State) : (setMode m s).jn = s.jn := rfl
@[simp] theorem setMode_tc (m : Mode) (s : State) : (setMode m s).tc = s.tc := rfl
@[simp] theorem setMode_mc_resetCause (m : Mode) (s : State) : (setMode m s).mc.resetCause = s.mc.resetCause := rfl
@[simp] theorem setMode_mc_nodeId (m : Mode) (s : State) : (setMode m s).mc.nodeId = s.mc.nodeId := rfl
@[simp] theorem setMode_mc_lockrec (m : Mode) (s : State) : (setMode m s).mc.lockrec = s.mc.lockrec := rfl
@[simp] theorem setMode_mc_locktick (m : Mode) (s : State) : (setMode m s).mc.locktick = s.mc.locktick := rfl
@[simp] theorem setMode_mc_causeSeen (m : Mode) (s : State) : (setMode m s).mc.causeSeen = s.mc.causeSeen := rfl
@[simp] theorem setMode_mc_mode (m : Mode) (s : State) : (setMode m s).mc.mode = m := rfl

/-! ## setUnread -/

@[simp] theorem setUnread_pending (l : List Words4) (s : State) : (setUnread l s).pending = s.pending := rfl
@[simp] theorem setUnread_link (l : List Words4) (s : State) : (setUnread l s).link = s.link := rfl
@[simp] theorem setUnread_rst (l : List Words4) (s : State) : (setUnread l s).rst = s.rst := rfl
@[simp] theorem setUnread_regs (l : List Words4) (s : State) : (setUnread l s).regs = s.regs := rfl
@[simp] theorem setUnread_mc (l : List Words4) (s : State) : (setUnread l s).mc = s.mc := rfl
@[simp] theorem setUnread_scan (l : List Words4) (s : State) : (setUnread l s).scan = s.scan := rfl
@[simp] theorem setUnread_srcs (l : List Words4) (s : State) : (setUnread l s).srcs = s.srcs := rfl
@[simp] theorem setUnread_arb (l : List Words4) (s : State) : (setUnread l s).arb = s.arb := rfl
@[simp] theorem setUnread_svc (l : List Words4) (s : State) : (setUnread l s).svc = s.svc := rfl
@[simp] theorem setUnread_dl (l : List Words4) (s : State) : (setUnread l s).dl = s.dl := rfl
@[simp] theorem setUnread_act (l : List Words4) (s : State) : (setUnread l s).act = s.act := rfl
@[simp] theorem setUnread_tc (l : List Words4) (s : State) : (setUnread l s).tc = s.tc := rfl
@[simp] theorem setUnread_jn_window (l : List Words4) (s : State) : (setUnread l s).jn.window = s.jn.window := rfl
@[simp] theorem setUnread_jn_lost (l : List Words4) (s : State) : (setUnread l s).jn.lost = s.jn.lost := rfl
@[simp] theorem setUnread_jn_filter (l : List Words4) (s : State) : (setUnread l s).jn.filter = s.jn.filter := rfl
@[simp] theorem setUnread_jn_unread (l : List Words4) (s : State) : (setUnread l s).jn.unread = l := rfl

/-! ## recordFrame -/

@[simp] theorem recordFrame_pending (p : PrevFrame) (s : State) : (recordFrame p s).pending = s.pending := rfl
@[simp] theorem recordFrame_rst (p : PrevFrame) (s : State) : (recordFrame p s).rst = s.rst := rfl
@[simp] theorem recordFrame_regs (p : PrevFrame) (s : State) : (recordFrame p s).regs = s.regs := rfl
@[simp] theorem recordFrame_mc (p : PrevFrame) (s : State) : (recordFrame p s).mc = s.mc := rfl
@[simp] theorem recordFrame_scan (p : PrevFrame) (s : State) : (recordFrame p s).scan = s.scan := rfl
@[simp] theorem recordFrame_srcs (p : PrevFrame) (s : State) : (recordFrame p s).srcs = s.srcs := rfl
@[simp] theorem recordFrame_arb (p : PrevFrame) (s : State) : (recordFrame p s).arb = s.arb := rfl
@[simp] theorem recordFrame_svc (p : PrevFrame) (s : State) : (recordFrame p s).svc = s.svc := rfl
@[simp] theorem recordFrame_dl (p : PrevFrame) (s : State) : (recordFrame p s).dl = s.dl := rfl
@[simp] theorem recordFrame_act (p : PrevFrame) (s : State) : (recordFrame p s).act = s.act := rfl
@[simp] theorem recordFrame_jn (p : PrevFrame) (s : State) : (recordFrame p s).jn = s.jn := rfl
@[simp] theorem recordFrame_tc (p : PrevFrame) (s : State) : (recordFrame p s).tc = s.tc := rfl
@[simp] theorem recordFrame_link_lselHigh (p : PrevFrame) (s : State) :
    (recordFrame p s).link.lselHigh = s.link.lselHigh := rfl
@[simp] theorem recordFrame_link_phase (p : PrevFrame) (s : State) :
    (recordFrame p s).link.phase = s.link.phase := rfl
@[simp] theorem recordFrame_link_edges (p : PrevFrame) (s : State) :
    (recordFrame p s).link.edges = s.link.edges := rfl
@[simp] theorem recordFrame_link_shift (p : PrevFrame) (s : State) :
    (recordFrame p s).link.shift = s.link.shift := rfl
@[simp] theorem recordFrame_link_idle (p : PrevFrame) (s : State) : (recordFrame p s).link.idle = s.link.idle := rfl
@[simp] theorem recordFrame_link_driving (p : PrevFrame) (s : State) :
    (recordFrame p s).link.driving = s.link.driving := rfl
@[simp] theorem recordFrame_link_ldo (p : PrevFrame) (s : State) : (recordFrame p s).link.ldo = s.link.ldo := rfl
@[simp] theorem recordFrame_link_receipt (p : PrevFrame) (s : State) :
    (recordFrame p s).link.receipt = s.link.receipt := rfl
@[simp] theorem recordFrame_link_linkFault (p : PrevFrame) (s : State) :
    (recordFrame p s).link.linkFault = s.link.linkFault := rfl
@[simp] theorem recordFrame_link_linkCount (p : PrevFrame) (s : State) :
    (recordFrame p s).link.linkCount = s.link.linkCount := rfl
@[simp] theorem recordFrame_link_hold (p : PrevFrame) (s : State) : (recordFrame p s).link.hold = s.link.hold := rfl
@[simp] theorem recordFrame_link_prev (p : PrevFrame) (s : State) : (recordFrame p s).link.prev = p := rfl

/-! ## endHold -/

@[simp] theorem endHold_pending (s : State) : (endHold s).pending = s.pending := rfl
@[simp] theorem endHold_rst (s : State) : (endHold s).rst = s.rst := rfl
@[simp] theorem endHold_regs (s : State) : (endHold s).regs = s.regs := rfl
@[simp] theorem endHold_mc (s : State) : (endHold s).mc = s.mc := rfl
@[simp] theorem endHold_scan (s : State) : (endHold s).scan = s.scan := rfl
@[simp] theorem endHold_srcs (s : State) : (endHold s).srcs = s.srcs := rfl
@[simp] theorem endHold_arb (s : State) : (endHold s).arb = s.arb := rfl
@[simp] theorem endHold_svc (s : State) : (endHold s).svc = s.svc := rfl
@[simp] theorem endHold_dl (s : State) : (endHold s).dl = s.dl := rfl
@[simp] theorem endHold_act (s : State) : (endHold s).act = s.act := rfl
@[simp] theorem endHold_jn (s : State) : (endHold s).jn = s.jn := rfl
@[simp] theorem endHold_tc (s : State) : (endHold s).tc = s.tc := rfl
@[simp] theorem endHold_link_lselHigh (s : State) : (endHold s).link.lselHigh = s.link.lselHigh := rfl
@[simp] theorem endHold_link_phase (s : State) : (endHold s).link.phase = s.link.phase := rfl
@[simp] theorem endHold_link_edges (s : State) : (endHold s).link.edges = s.link.edges := rfl
@[simp] theorem endHold_link_shift (s : State) : (endHold s).link.shift = s.link.shift := rfl
@[simp] theorem endHold_link_idle (s : State) : (endHold s).link.idle = s.link.idle := rfl
@[simp] theorem endHold_link_driving (s : State) : (endHold s).link.driving = s.link.driving := rfl
@[simp] theorem endHold_link_ldo (s : State) : (endHold s).link.ldo = s.link.ldo := rfl
@[simp] theorem endHold_link_receipt (s : State) : (endHold s).link.receipt = s.link.receipt := rfl
@[simp] theorem endHold_link_linkFault (s : State) : (endHold s).link.linkFault = s.link.linkFault := rfl
@[simp] theorem endHold_link_linkCount (s : State) : (endHold s).link.linkCount = s.link.linkCount := rfl
@[simp] theorem endHold_link_prev (s : State) : (endHold s).link.prev = s.link.prev := rfl
@[simp] theorem endHold_link_hold (s : State) : (endHold s).link.hold = none := rfl

/-! ## recordRejection -/

@[simp] theorem recordRejection_pending (c : FrameOutcome) (tag : BitVec 4) (n : Byte) (s : State) :
    (recordRejection c tag n s).pending = s.pending := rfl
@[simp] theorem recordRejection_rst (c : FrameOutcome) (tag : BitVec 4) (n : Byte) (s : State) :
    (recordRejection c tag n s).rst = s.rst := rfl
@[simp] theorem recordRejection_regs (c : FrameOutcome) (tag : BitVec 4) (n : Byte) (s : State) :
    (recordRejection c tag n s).regs = s.regs := rfl
@[simp] theorem recordRejection_mc (c : FrameOutcome) (tag : BitVec 4) (n : Byte) (s : State) :
    (recordRejection c tag n s).mc = s.mc := rfl
@[simp] theorem recordRejection_scan (c : FrameOutcome) (tag : BitVec 4) (n : Byte) (s : State) :
    (recordRejection c tag n s).scan = s.scan := rfl
@[simp] theorem recordRejection_srcs (c : FrameOutcome) (tag : BitVec 4) (n : Byte) (s : State) :
    (recordRejection c tag n s).srcs = s.srcs := rfl
@[simp] theorem recordRejection_arb (c : FrameOutcome) (tag : BitVec 4) (n : Byte) (s : State) :
    (recordRejection c tag n s).arb = s.arb := rfl
@[simp] theorem recordRejection_svc (c : FrameOutcome) (tag : BitVec 4) (n : Byte) (s : State) :
    (recordRejection c tag n s).svc = s.svc := rfl
@[simp] theorem recordRejection_dl (c : FrameOutcome) (tag : BitVec 4) (n : Byte) (s : State) :
    (recordRejection c tag n s).dl = s.dl := rfl
@[simp] theorem recordRejection_act (c : FrameOutcome) (tag : BitVec 4) (n : Byte) (s : State) :
    (recordRejection c tag n s).act = s.act := rfl
@[simp] theorem recordRejection_jn (c : FrameOutcome) (tag : BitVec 4) (n : Byte) (s : State) :
    (recordRejection c tag n s).jn = s.jn := rfl
@[simp] theorem recordRejection_tc (c : FrameOutcome) (tag : BitVec 4) (n : Byte) (s : State) :
    (recordRejection c tag n s).tc = s.tc := rfl
@[simp] theorem recordRejection_link_lselHigh (c : FrameOutcome) (tag : BitVec 4) (n : Byte) (s : State) :
    (recordRejection c tag n s).link.lselHigh = s.link.lselHigh := rfl
@[simp] theorem recordRejection_link_phase (c : FrameOutcome) (tag : BitVec 4) (n : Byte) (s : State) :
    (recordRejection c tag n s).link.phase = s.link.phase := rfl
@[simp] theorem recordRejection_link_edges (c : FrameOutcome) (tag : BitVec 4) (n : Byte) (s : State) :
    (recordRejection c tag n s).link.edges = s.link.edges := rfl
@[simp] theorem recordRejection_link_shift (c : FrameOutcome) (tag : BitVec 4) (n : Byte) (s : State) :
    (recordRejection c tag n s).link.shift = s.link.shift := rfl
@[simp] theorem recordRejection_link_idle (c : FrameOutcome) (tag : BitVec 4) (n : Byte) (s : State) :
    (recordRejection c tag n s).link.idle = s.link.idle := rfl
@[simp] theorem recordRejection_link_driving (c : FrameOutcome) (tag : BitVec 4) (n : Byte) (s : State) :
    (recordRejection c tag n s).link.driving = s.link.driving := rfl
@[simp] theorem recordRejection_link_ldo (c : FrameOutcome) (tag : BitVec 4) (n : Byte) (s : State) :
    (recordRejection c tag n s).link.ldo = s.link.ldo := rfl
@[simp] theorem recordRejection_link_receipt (c : FrameOutcome) (tag : BitVec 4) (n : Byte) (s : State) :
    (recordRejection c tag n s).link.receipt = s.link.receipt := rfl
@[simp] theorem recordRejection_link_hold (c : FrameOutcome) (tag : BitVec 4) (n : Byte) (s : State) :
    (recordRejection c tag n s).link.hold = none := rfl
@[simp] theorem recordRejection_link_linkCount (c : FrameOutcome) (tag : BitVec 4) (n : Byte) (s : State) :
    (recordRejection c tag n s).link.linkCount = satInc s.link.linkCount := rfl
@[simp] theorem recordRejection_link_prev (c : FrameOutcome) (tag : BitVec 4) (n : Byte) (s : State) :
    (recordRejection c tag n s).link.prev = { outcome := c, tag := tag, data := satInc s.link.linkCount ++ n } := rfl

/-! ## closeFrame -/

@[simp] theorem closeFrame_pending (p : LinkPhase) (s : State) : (closeFrame p s).pending = s.pending := rfl
@[simp] theorem closeFrame_rst (p : LinkPhase) (s : State) : (closeFrame p s).rst = s.rst := rfl
@[simp] theorem closeFrame_regs (p : LinkPhase) (s : State) : (closeFrame p s).regs = s.regs := rfl
@[simp] theorem closeFrame_mc (p : LinkPhase) (s : State) : (closeFrame p s).mc = s.mc := rfl
@[simp] theorem closeFrame_scan (p : LinkPhase) (s : State) : (closeFrame p s).scan = s.scan := rfl
@[simp] theorem closeFrame_srcs (p : LinkPhase) (s : State) : (closeFrame p s).srcs = s.srcs := rfl
@[simp] theorem closeFrame_arb (p : LinkPhase) (s : State) : (closeFrame p s).arb = s.arb := rfl
@[simp] theorem closeFrame_svc (p : LinkPhase) (s : State) : (closeFrame p s).svc = s.svc := rfl
@[simp] theorem closeFrame_dl (p : LinkPhase) (s : State) : (closeFrame p s).dl = s.dl := rfl
@[simp] theorem closeFrame_act (p : LinkPhase) (s : State) : (closeFrame p s).act = s.act := rfl
@[simp] theorem closeFrame_jn (p : LinkPhase) (s : State) : (closeFrame p s).jn = s.jn := rfl
@[simp] theorem closeFrame_tc (p : LinkPhase) (s : State) : (closeFrame p s).tc = s.tc := rfl
@[simp] theorem closeFrame_link_lselHigh (p : LinkPhase) (s : State) :
    (closeFrame p s).link.lselHigh = s.link.lselHigh := rfl
@[simp] theorem closeFrame_link_receipt (p : LinkPhase) (s : State) :
    (closeFrame p s).link.receipt = s.link.receipt := rfl
@[simp] theorem closeFrame_link_linkFault (p : LinkPhase) (s : State) :
    (closeFrame p s).link.linkFault = s.link.linkFault := rfl
@[simp] theorem closeFrame_link_linkCount (p : LinkPhase) (s : State) :
    (closeFrame p s).link.linkCount = s.link.linkCount := rfl
@[simp] theorem closeFrame_link_prev (p : LinkPhase) (s : State) : (closeFrame p s).link.prev = s.link.prev := rfl
@[simp] theorem closeFrame_link_hold (p : LinkPhase) (s : State) : (closeFrame p s).link.hold = s.link.hold := rfl
@[simp] theorem closeFrame_link_phase (p : LinkPhase) (s : State) : (closeFrame p s).link.phase = p := rfl
@[simp] theorem closeFrame_link_edges (p : LinkPhase) (s : State) : (closeFrame p s).link.edges = 0 := rfl
@[simp] theorem closeFrame_link_shift (p : LinkPhase) (s : State) : (closeFrame p s).link.shift = 0 := rfl
@[simp] theorem closeFrame_link_idle (p : LinkPhase) (s : State) : (closeFrame p s).link.idle = 0 := rfl
@[simp] theorem closeFrame_link_driving (p : LinkPhase) (s : State) : (closeFrame p s).link.driving = false := rfl
@[simp] theorem closeFrame_link_ldo (p : LinkPhase) (s : State) : (closeFrame p s).link.ldo = none := rfl

/-! ## loadWatchdog -/

@[simp] theorem loadWatchdog_pending (s : State) : (loadWatchdog s).pending = s.pending := rfl
@[simp] theorem loadWatchdog_link (s : State) : (loadWatchdog s).link = s.link := rfl
@[simp] theorem loadWatchdog_rst (s : State) : (loadWatchdog s).rst = s.rst := rfl
@[simp] theorem loadWatchdog_regs (s : State) : (loadWatchdog s).regs = s.regs := rfl
@[simp] theorem loadWatchdog_mc (s : State) : (loadWatchdog s).mc = s.mc := rfl
@[simp] theorem loadWatchdog_scan (s : State) : (loadWatchdog s).scan = s.scan := rfl
@[simp] theorem loadWatchdog_srcs (s : State) : (loadWatchdog s).srcs = s.srcs := rfl
@[simp] theorem loadWatchdog_arb (s : State) : (loadWatchdog s).arb = s.arb := rfl
@[simp] theorem loadWatchdog_svc (s : State) : (loadWatchdog s).svc = s.svc := rfl
@[simp] theorem loadWatchdog_act (s : State) : (loadWatchdog s).act = s.act := rfl
@[simp] theorem loadWatchdog_jn (s : State) : (loadWatchdog s).jn = s.jn := rfl
@[simp] theorem loadWatchdog_tc (s : State) : (loadWatchdog s).tc = s.tc := rfl

/-! ## stopWatchdog -/

@[simp] theorem stopWatchdog_pending (s : State) : (stopWatchdog s).pending = s.pending := rfl
@[simp] theorem stopWatchdog_link (s : State) : (stopWatchdog s).link = s.link := rfl
@[simp] theorem stopWatchdog_rst (s : State) : (stopWatchdog s).rst = s.rst := rfl
@[simp] theorem stopWatchdog_regs (s : State) : (stopWatchdog s).regs = s.regs := rfl
@[simp] theorem stopWatchdog_mc (s : State) : (stopWatchdog s).mc = s.mc := rfl
@[simp] theorem stopWatchdog_scan (s : State) : (stopWatchdog s).scan = s.scan := rfl
@[simp] theorem stopWatchdog_srcs (s : State) : (stopWatchdog s).srcs = s.srcs := rfl
@[simp] theorem stopWatchdog_arb (s : State) : (stopWatchdog s).arb = s.arb := rfl
@[simp] theorem stopWatchdog_svc (s : State) : (stopWatchdog s).svc = s.svc := rfl
@[simp] theorem stopWatchdog_act (s : State) : (stopWatchdog s).act = s.act := rfl
@[simp] theorem stopWatchdog_jn (s : State) : (stopWatchdog s).jn = s.jn := rfl
@[simp] theorem stopWatchdog_tc (s : State) : (stopWatchdog s).tc = s.tc := rfl
@[simp] theorem stopWatchdog_dl_watchdog (s : State) : (stopWatchdog s).dl.watchdog = none := rfl

/-! ## recomputeLevels -/

@[simp] theorem recomputeLevels_pending (s : State) : (recomputeLevels s).pending = s.pending := rfl
@[simp] theorem recomputeLevels_link (s : State) : (recomputeLevels s).link = s.link := rfl
@[simp] theorem recomputeLevels_rst (s : State) : (recomputeLevels s).rst = s.rst := rfl
@[simp] theorem recomputeLevels_regs (s : State) : (recomputeLevels s).regs = s.regs := rfl
@[simp] theorem recomputeLevels_mc (s : State) : (recomputeLevels s).mc = s.mc := rfl
@[simp] theorem recomputeLevels_scan (s : State) : (recomputeLevels s).scan = s.scan := rfl
@[simp] theorem recomputeLevels_srcs (s : State) : (recomputeLevels s).srcs = s.srcs := rfl
@[simp] theorem recomputeLevels_arb (s : State) : (recomputeLevels s).arb = s.arb := rfl
@[simp] theorem recomputeLevels_svc (s : State) : (recomputeLevels s).svc = s.svc := rfl
@[simp] theorem recomputeLevels_dl (s : State) : (recomputeLevels s).dl = s.dl := rfl
@[simp] theorem recomputeLevels_jn (s : State) : (recomputeLevels s).jn = s.jn := rfl
@[simp] theorem recomputeLevels_tc (s : State) : (recomputeLevels s).tc = s.tc := rfl
@[simp] theorem recomputeLevels_act_operate (s : State) : (recomputeLevels s).act.operate = s.act.operate := rfl
@[simp] theorem recomputeLevels_act_safe (s : State) : (recomputeLevels s).act.safe = s.act.safe := rfl
@[simp] theorem recomputeLevels_act_sets (s : State) : (recomputeLevels s).act.sets = s.act.sets := rfl
@[simp] theorem recomputeLevels_act_frozen (s : State) : (recomputeLevels s).act.frozen = s.act.frozen := rfl
@[simp] theorem recomputeLevels_act_frozenLevel (s : State) :
    (recomputeLevels s).act.frozenLevel = s.act.frozenLevel := rfl
@[simp] theorem recomputeLevels_act_rbcheck (s : State) : (recomputeLevels s).act.rbcheck = s.act.rbcheck := rfl
@[simp] theorem recomputeLevels_act_counters (s : State) : (recomputeLevels s).act.counters = s.act.counters := rfl
@[simp] theorem recomputeLevels_act_mismatchSet (s : State) :
    (recomputeLevels s).act.mismatchSet = s.act.mismatchSet := rfl
@[simp] theorem recomputeLevels_act_mismatchDet (s : State) :
    (recomputeLevels s).act.mismatchDet = s.act.mismatchDet := rfl
@[simp] theorem recomputeLevels_act_effective (s : State) : (recomputeLevels s).act.effective = s.effectiveWord := rfl

/-! ## setAlert -/

@[simp] theorem setAlert_pending (s : State) : (setAlert s).pending = s.pending := rfl
@[simp] theorem setAlert_link (s : State) : (setAlert s).link = s.link := rfl
@[simp] theorem setAlert_rst (s : State) : (setAlert s).rst = s.rst := rfl
@[simp] theorem setAlert_regs (s : State) : (setAlert s).regs = s.regs := rfl
@[simp] theorem setAlert_mc (s : State) : (setAlert s).mc = s.mc := rfl
@[simp] theorem setAlert_scan (s : State) : (setAlert s).scan = s.scan := rfl
@[simp] theorem setAlert_srcs (s : State) : (setAlert s).srcs = s.srcs := rfl
@[simp] theorem setAlert_svc (s : State) : (setAlert s).svc = s.svc := rfl
@[simp] theorem setAlert_dl (s : State) : (setAlert s).dl = s.dl := rfl
@[simp] theorem setAlert_act (s : State) : (setAlert s).act = s.act := rfl
@[simp] theorem setAlert_jn (s : State) : (setAlert s).jn = s.jn := rfl
@[simp] theorem setAlert_tc (s : State) : (setAlert s).tc = s.tc := rfl
@[simp] theorem setAlert_arb_waiting (s : State) : (setAlert s).arb.waiting = s.arb.waiting := rfl
@[simp] theorem setAlert_arb_nextPosition (s : State) : (setAlert s).arb.nextPosition = s.arb.nextPosition := rfl
@[simp] theorem setAlert_arb_alert (s : State) : (setAlert s).arb.alert = s.alertCondition := rfl

/-! ## endHappening -/

@[simp] theorem endHappening_pending (s : State) : (endHappening s).pending = s.pending := rfl
@[simp] theorem endHappening_link (s : State) : (endHappening s).link = s.link := rfl
@[simp] theorem endHappening_rst (s : State) : (endHappening s).rst = s.rst := rfl
@[simp] theorem endHappening_regs (s : State) : (endHappening s).regs = s.regs := rfl
@[simp] theorem endHappening_mc (s : State) : (endHappening s).mc = s.mc := rfl
@[simp] theorem endHappening_scan (s : State) : (endHappening s).scan = s.scan := rfl
@[simp] theorem endHappening_srcs (s : State) : (endHappening s).srcs = s.srcs := rfl
@[simp] theorem endHappening_svc (s : State) : (endHappening s).svc = s.svc := rfl
@[simp] theorem endHappening_dl (s : State) : (endHappening s).dl = s.dl := rfl
@[simp] theorem endHappening_jn (s : State) : (endHappening s).jn = s.jn := rfl
@[simp] theorem endHappening_tc (s : State) : (endHappening s).tc = s.tc := rfl
@[simp] theorem endHappening_act_operate (s : State) : (endHappening s).act.operate = s.act.operate := rfl
@[simp] theorem endHappening_act_safe (s : State) : (endHappening s).act.safe = s.act.safe := rfl
@[simp] theorem endHappening_act_sets (s : State) : (endHappening s).act.sets = s.act.sets := rfl
@[simp] theorem endHappening_act_frozen (s : State) : (endHappening s).act.frozen = s.act.frozen := rfl
@[simp] theorem endHappening_act_frozenLevel (s : State) : (endHappening s).act.frozenLevel = s.act.frozenLevel := rfl
@[simp] theorem endHappening_act_rbcheck (s : State) : (endHappening s).act.rbcheck = s.act.rbcheck := rfl
@[simp] theorem endHappening_act_counters (s : State) : (endHappening s).act.counters = s.act.counters := rfl
@[simp] theorem endHappening_act_mismatchSet (s : State) : (endHappening s).act.mismatchSet = s.act.mismatchSet := rfl
@[simp] theorem endHappening_act_mismatchDet (s : State) : (endHappening s).act.mismatchDet = s.act.mismatchDet := rfl
@[simp] theorem endHappening_arb_waiting (s : State) : (endHappening s).arb.waiting = s.arb.waiting := rfl
@[simp] theorem endHappening_arb_nextPosition (s : State) :
    (endHappening s).arb.nextPosition = s.arb.nextPosition := rfl
@[simp] theorem endHappening_act_effective (s : State) : (endHappening s).act.effective = s.effectiveWord := rfl

/-! ## captureFreezes -/

@[simp] theorem captureFreezes_pending (k : SetId) (s : State) : (captureFreezes k s).pending = s.pending := rfl
@[simp] theorem captureFreezes_link (k : SetId) (s : State) : (captureFreezes k s).link = s.link := rfl
@[simp] theorem captureFreezes_rst (k : SetId) (s : State) : (captureFreezes k s).rst = s.rst := rfl
@[simp] theorem captureFreezes_regs (k : SetId) (s : State) : (captureFreezes k s).regs = s.regs := rfl
@[simp] theorem captureFreezes_mc (k : SetId) (s : State) : (captureFreezes k s).mc = s.mc := rfl
@[simp] theorem captureFreezes_scan (k : SetId) (s : State) : (captureFreezes k s).scan = s.scan := rfl
@[simp] theorem captureFreezes_srcs (k : SetId) (s : State) : (captureFreezes k s).srcs = s.srcs := rfl
@[simp] theorem captureFreezes_arb (k : SetId) (s : State) : (captureFreezes k s).arb = s.arb := rfl
@[simp] theorem captureFreezes_svc (k : SetId) (s : State) : (captureFreezes k s).svc = s.svc := rfl
@[simp] theorem captureFreezes_dl (k : SetId) (s : State) : (captureFreezes k s).dl = s.dl := rfl
@[simp] theorem captureFreezes_jn (k : SetId) (s : State) : (captureFreezes k s).jn = s.jn := rfl
@[simp] theorem captureFreezes_tc (k : SetId) (s : State) : (captureFreezes k s).tc = s.tc := rfl
@[simp] theorem captureFreezes_act_operate (k : SetId) (s : State) :
    (captureFreezes k s).act.operate = s.act.operate := rfl
@[simp] theorem captureFreezes_act_safe (k : SetId) (s : State) : (captureFreezes k s).act.safe = s.act.safe := rfl
@[simp] theorem captureFreezes_act_effective (k : SetId) (s : State) :
    (captureFreezes k s).act.effective = s.act.effective := rfl
@[simp] theorem captureFreezes_act_moved (k : SetId) (s : State) : (captureFreezes k s).act.moved = s.act.moved := rfl
@[simp] theorem captureFreezes_act_sets (k : SetId) (s : State) : (captureFreezes k s).act.sets = s.act.sets := rfl
@[simp] theorem captureFreezes_act_rbcheck (k : SetId) (s : State) :
    (captureFreezes k s).act.rbcheck = s.act.rbcheck := rfl
@[simp] theorem captureFreezes_act_counters (k : SetId) (s : State) :
    (captureFreezes k s).act.counters = s.act.counters := rfl
@[simp] theorem captureFreezes_act_mismatchSet (k : SetId) (s : State) :
    (captureFreezes k s).act.mismatchSet = s.act.mismatchSet := rfl
@[simp] theorem captureFreezes_act_mismatchDet (k : SetId) (s : State) :
    (captureFreezes k s).act.mismatchDet = s.act.mismatchDet := rfl

/-! ## dropSet -/

@[simp] theorem dropSet_pending (k : SetId) (s : State) : (dropSet k s).pending = s.pending := rfl
@[simp] theorem dropSet_link (k : SetId) (s : State) : (dropSet k s).link = s.link := rfl
@[simp] theorem dropSet_rst (k : SetId) (s : State) : (dropSet k s).rst = s.rst := rfl
@[simp] theorem dropSet_regs (k : SetId) (s : State) : (dropSet k s).regs = s.regs := rfl
@[simp] theorem dropSet_mc (k : SetId) (s : State) : (dropSet k s).mc = s.mc := rfl
@[simp] theorem dropSet_scan (k : SetId) (s : State) : (dropSet k s).scan = s.scan := rfl
@[simp] theorem dropSet_srcs (k : SetId) (s : State) : (dropSet k s).srcs = s.srcs := rfl
@[simp] theorem dropSet_arb (k : SetId) (s : State) : (dropSet k s).arb = s.arb := rfl
@[simp] theorem dropSet_svc (k : SetId) (s : State) : (dropSet k s).svc = s.svc := rfl
@[simp] theorem dropSet_dl (k : SetId) (s : State) : (dropSet k s).dl = s.dl := rfl
@[simp] theorem dropSet_jn (k : SetId) (s : State) : (dropSet k s).jn = s.jn := rfl
@[simp] theorem dropSet_tc (k : SetId) (s : State) : (dropSet k s).tc = s.tc := rfl
@[simp] theorem dropSet_act_operate (k : SetId) (s : State) : (dropSet k s).act.operate = s.act.operate := rfl
@[simp] theorem dropSet_act_safe (k : SetId) (s : State) : (dropSet k s).act.safe = s.act.safe := rfl
@[simp] theorem dropSet_act_effective (k : SetId) (s : State) : (dropSet k s).act.effective = s.act.effective := rfl
@[simp] theorem dropSet_act_moved (k : SetId) (s : State) : (dropSet k s).act.moved = s.act.moved := rfl
@[simp] theorem dropSet_act_rbcheck (k : SetId) (s : State) : (dropSet k s).act.rbcheck = s.act.rbcheck := rfl
@[simp] theorem dropSet_act_counters (k : SetId) (s : State) : (dropSet k s).act.counters = s.act.counters := rfl
@[simp] theorem dropSet_act_mismatchSet (k : SetId) (s : State) :
    (dropSet k s).act.mismatchSet = s.act.mismatchSet := rfl
@[simp] theorem dropSet_act_mismatchDet (k : SetId) (s : State) :
    (dropSet k s).act.mismatchDet = s.act.mismatchDet := rfl

/-! ## clearReactions -/

@[simp] theorem clearReactions_pending (s : State) : (clearReactions s).pending = s.pending := rfl
@[simp] theorem clearReactions_link (s : State) : (clearReactions s).link = s.link := rfl
@[simp] theorem clearReactions_rst (s : State) : (clearReactions s).rst = s.rst := rfl
@[simp] theorem clearReactions_regs (s : State) : (clearReactions s).regs = s.regs := rfl
@[simp] theorem clearReactions_mc (s : State) : (clearReactions s).mc = s.mc := rfl
@[simp] theorem clearReactions_scan (s : State) : (clearReactions s).scan = s.scan := rfl
@[simp] theorem clearReactions_srcs (s : State) : (clearReactions s).srcs = s.srcs := rfl
@[simp] theorem clearReactions_arb (s : State) : (clearReactions s).arb = s.arb := rfl
@[simp] theorem clearReactions_svc (s : State) : (clearReactions s).svc = s.svc := rfl
@[simp] theorem clearReactions_dl (s : State) : (clearReactions s).dl = s.dl := rfl
@[simp] theorem clearReactions_jn (s : State) : (clearReactions s).jn = s.jn := rfl
@[simp] theorem clearReactions_tc (s : State) : (clearReactions s).tc = s.tc := rfl
@[simp] theorem clearReactions_act_operate (s : State) : (clearReactions s).act.operate = s.act.operate := rfl
@[simp] theorem clearReactions_act_safe (s : State) : (clearReactions s).act.safe = s.act.safe := rfl
@[simp] theorem clearReactions_act_effective (s : State) : (clearReactions s).act.effective = s.act.effective := rfl
@[simp] theorem clearReactions_act_moved (s : State) : (clearReactions s).act.moved = s.act.moved := rfl
@[simp] theorem clearReactions_act_rbcheck (s : State) : (clearReactions s).act.rbcheck = s.act.rbcheck := rfl
@[simp] theorem clearReactions_act_counters (s : State) : (clearReactions s).act.counters = s.act.counters := rfl
@[simp] theorem clearReactions_act_mismatchSet (s : State) :
    (clearReactions s).act.mismatchSet = s.act.mismatchSet := rfl
@[simp] theorem clearReactions_act_mismatchDet (s : State) :
    (clearReactions s).act.mismatchDet = s.act.mismatchDet := rfl
@[simp] theorem clearReactions_act_frozen (s : State) : (clearReactions s).act.frozen = 0 := rfl
@[simp] theorem clearReactions_act_frozenLevel (s : State) : (clearReactions s).act.frozenLevel = 0 := rfl

/-! ## clearMismatch -/

@[simp] theorem clearMismatch_pending (s : State) : (clearMismatch s).pending = s.pending := rfl
@[simp] theorem clearMismatch_link (s : State) : (clearMismatch s).link = s.link := rfl
@[simp] theorem clearMismatch_rst (s : State) : (clearMismatch s).rst = s.rst := rfl
@[simp] theorem clearMismatch_regs (s : State) : (clearMismatch s).regs = s.regs := rfl
@[simp] theorem clearMismatch_mc (s : State) : (clearMismatch s).mc = s.mc := rfl
@[simp] theorem clearMismatch_scan (s : State) : (clearMismatch s).scan = s.scan := rfl
@[simp] theorem clearMismatch_srcs (s : State) : (clearMismatch s).srcs = s.srcs := rfl
@[simp] theorem clearMismatch_arb (s : State) : (clearMismatch s).arb = s.arb := rfl
@[simp] theorem clearMismatch_svc (s : State) : (clearMismatch s).svc = s.svc := rfl
@[simp] theorem clearMismatch_dl (s : State) : (clearMismatch s).dl = s.dl := rfl
@[simp] theorem clearMismatch_jn (s : State) : (clearMismatch s).jn = s.jn := rfl
@[simp] theorem clearMismatch_tc (s : State) : (clearMismatch s).tc = s.tc := rfl
@[simp] theorem clearMismatch_act_operate (s : State) : (clearMismatch s).act.operate = s.act.operate := rfl
@[simp] theorem clearMismatch_act_safe (s : State) : (clearMismatch s).act.safe = s.act.safe := rfl
@[simp] theorem clearMismatch_act_effective (s : State) : (clearMismatch s).act.effective = s.act.effective := rfl
@[simp] theorem clearMismatch_act_moved (s : State) : (clearMismatch s).act.moved = s.act.moved := rfl
@[simp] theorem clearMismatch_act_sets (s : State) : (clearMismatch s).act.sets = s.act.sets := rfl
@[simp] theorem clearMismatch_act_frozen (s : State) : (clearMismatch s).act.frozen = s.act.frozen := rfl
@[simp] theorem clearMismatch_act_frozenLevel (s : State) :
    (clearMismatch s).act.frozenLevel = s.act.frozenLevel := rfl
@[simp] theorem clearMismatch_act_rbcheck (s : State) : (clearMismatch s).act.rbcheck = s.act.rbcheck := rfl
@[simp] theorem clearMismatch_act_mismatchDet (s : State) :
    (clearMismatch s).act.mismatchDet = s.act.mismatchDet := rfl
@[simp] theorem clearMismatch_act_mismatchSet (s : State) : (clearMismatch s).act.mismatchSet = 0 := rfl
@[simp] theorem clearMismatch_act_counters (s : State) : (clearMismatch s).act.counters = Vector.replicate 16 0 := rfl

/-! ## takePosition -/

@[simp] theorem takePosition_pending (i : SourceId) (s : State) : (takePosition i s).pending = s.pending := rfl
@[simp] theorem takePosition_link (i : SourceId) (s : State) : (takePosition i s).link = s.link := rfl
@[simp] theorem takePosition_rst (i : SourceId) (s : State) : (takePosition i s).rst = s.rst := rfl
@[simp] theorem takePosition_regs (i : SourceId) (s : State) : (takePosition i s).regs = s.regs := rfl
@[simp] theorem takePosition_mc (i : SourceId) (s : State) : (takePosition i s).mc = s.mc := rfl
@[simp] theorem takePosition_scan (i : SourceId) (s : State) : (takePosition i s).scan = s.scan := rfl
@[simp] theorem takePosition_svc (i : SourceId) (s : State) : (takePosition i s).svc = s.svc := rfl
@[simp] theorem takePosition_dl (i : SourceId) (s : State) : (takePosition i s).dl = s.dl := rfl
@[simp] theorem takePosition_act (i : SourceId) (s : State) : (takePosition i s).act = s.act := rfl
@[simp] theorem takePosition_jn (i : SourceId) (s : State) : (takePosition i s).jn = s.jn := rfl
@[simp] theorem takePosition_tc (i : SourceId) (s : State) : (takePosition i s).tc = s.tc := rfl
@[simp] theorem takePosition_srcs_mask (i : SourceId) (s : State) : (takePosition i s).srcs.mask = s.srcs.mask := rfl
@[simp] theorem takePosition_arb_waiting (i : SourceId) (s : State) :
    (takePosition i s).arb.waiting = s.arb.waiting := rfl
@[simp] theorem takePosition_arb_alert (i : SourceId) (s : State) : (takePosition i s).arb.alert = s.arb.alert := rfl
@[simp] theorem takePosition_arb_nextPosition (i : SourceId) (s : State) :
    (takePosition i s).arb.nextPosition = s.arb.nextPosition + 1 := rfl

/-! ## joinPending -/

@[simp] theorem joinPending_pending (i : SourceId) (s : State) : (joinPending i s).pending = s.pending := rfl
@[simp] theorem joinPending_link (i : SourceId) (s : State) : (joinPending i s).link = s.link := rfl
@[simp] theorem joinPending_rst (i : SourceId) (s : State) : (joinPending i s).rst = s.rst := rfl
@[simp] theorem joinPending_regs (i : SourceId) (s : State) : (joinPending i s).regs = s.regs := rfl
@[simp] theorem joinPending_mc (i : SourceId) (s : State) : (joinPending i s).mc = s.mc := rfl
@[simp] theorem joinPending_scan (i : SourceId) (s : State) : (joinPending i s).scan = s.scan := rfl
@[simp] theorem joinPending_svc (i : SourceId) (s : State) : (joinPending i s).svc = s.svc := rfl
@[simp] theorem joinPending_dl (i : SourceId) (s : State) : (joinPending i s).dl = s.dl := rfl
@[simp] theorem joinPending_act (i : SourceId) (s : State) : (joinPending i s).act = s.act := rfl
@[simp] theorem joinPending_jn (i : SourceId) (s : State) : (joinPending i s).jn = s.jn := rfl
@[simp] theorem joinPending_tc (i : SourceId) (s : State) : (joinPending i s).tc = s.tc := rfl
@[simp] theorem joinPending_srcs_mask (i : SourceId) (s : State) : (joinPending i s).srcs.mask = s.srcs.mask := rfl
@[simp] theorem joinPending_arb_nextPosition (i : SourceId) (s : State) :
    (joinPending i s).arb.nextPosition = s.arb.nextPosition := rfl
@[simp] theorem joinPending_arb_alert (i : SourceId) (s : State) : (joinPending i s).arb.alert = s.arb.alert := rfl

/-! ## pushEntry -/

@[simp] theorem pushEntry_pending (i : SourceId) (a : Bool) (s : State) : (pushEntry i a s).pending = s.pending := rfl
@[simp] theorem pushEntry_link (i : SourceId) (a : Bool) (s : State) : (pushEntry i a s).link = s.link := rfl
@[simp] theorem pushEntry_rst (i : SourceId) (a : Bool) (s : State) : (pushEntry i a s).rst = s.rst := rfl
@[simp] theorem pushEntry_regs (i : SourceId) (a : Bool) (s : State) : (pushEntry i a s).regs = s.regs := rfl
@[simp] theorem pushEntry_mc (i : SourceId) (a : Bool) (s : State) : (pushEntry i a s).mc = s.mc := rfl
@[simp] theorem pushEntry_scan (i : SourceId) (a : Bool) (s : State) : (pushEntry i a s).scan = s.scan := rfl
@[simp] theorem pushEntry_srcs (i : SourceId) (a : Bool) (s : State) : (pushEntry i a s).srcs = s.srcs := rfl
@[simp] theorem pushEntry_arb (i : SourceId) (a : Bool) (s : State) : (pushEntry i a s).arb = s.arb := rfl
@[simp] theorem pushEntry_dl (i : SourceId) (a : Bool) (s : State) : (pushEntry i a s).dl = s.dl := rfl
@[simp] theorem pushEntry_act (i : SourceId) (a : Bool) (s : State) : (pushEntry i a s).act = s.act := rfl
@[simp] theorem pushEntry_jn (i : SourceId) (a : Bool) (s : State) : (pushEntry i a s).jn = s.jn := rfl
@[simp] theorem pushEntry_tc (i : SourceId) (a : Bool) (s : State) : (pushEntry i a s).tc = s.tc := rfl
@[simp] theorem pushEntry_svc_claimrec (i : SourceId) (a : Bool) (s : State) :
    (pushEntry i a s).svc.claimrec = s.svc.claimrec := rfl
@[simp] theorem pushEntry_svc_comprec0 (i : SourceId) (a : Bool) (s : State) :
    (pushEntry i a s).svc.comprec0 = s.svc.comprec0 := rfl
@[simp] theorem pushEntry_svc_comprec1 (i : SourceId) (a : Bool) (s : State) :
    (pushEntry i a s).svc.comprec1 = s.svc.comprec1 := rfl

/-! ## popStack -/

@[simp] theorem popStack_pending (s : State) : (popStack s).pending = s.pending := rfl
@[simp] theorem popStack_link (s : State) : (popStack s).link = s.link := rfl
@[simp] theorem popStack_rst (s : State) : (popStack s).rst = s.rst := rfl
@[simp] theorem popStack_regs (s : State) : (popStack s).regs = s.regs := rfl
@[simp] theorem popStack_mc (s : State) : (popStack s).mc = s.mc := rfl
@[simp] theorem popStack_scan (s : State) : (popStack s).scan = s.scan := rfl
@[simp] theorem popStack_srcs (s : State) : (popStack s).srcs = s.srcs := rfl
@[simp] theorem popStack_arb (s : State) : (popStack s).arb = s.arb := rfl
@[simp] theorem popStack_dl (s : State) : (popStack s).dl = s.dl := rfl
@[simp] theorem popStack_act (s : State) : (popStack s).act = s.act := rfl
@[simp] theorem popStack_jn (s : State) : (popStack s).jn = s.jn := rfl
@[simp] theorem popStack_tc (s : State) : (popStack s).tc = s.tc := rfl
@[simp] theorem popStack_svc_claimrec (s : State) : (popStack s).svc.claimrec = s.svc.claimrec := rfl
@[simp] theorem popStack_svc_comprec0 (s : State) : (popStack s).svc.comprec0 = s.svc.comprec0 := rfl
@[simp] theorem popStack_svc_comprec1 (s : State) : (popStack s).svc.comprec1 = s.svc.comprec1 := rfl
@[simp] theorem popStack_svc_stack (s : State) : (popStack s).svc.stack = s.svc.stack.drop 1 := rfl

/-! ## setTopDeadline -/

@[simp] theorem setTopDeadline_pending (d : Deadline) (s : State) : (setTopDeadline d s).pending = s.pending := rfl
@[simp] theorem setTopDeadline_link (d : Deadline) (s : State) : (setTopDeadline d s).link = s.link := rfl
@[simp] theorem setTopDeadline_rst (d : Deadline) (s : State) : (setTopDeadline d s).rst = s.rst := rfl
@[simp] theorem setTopDeadline_regs (d : Deadline) (s : State) : (setTopDeadline d s).regs = s.regs := rfl
@[simp] theorem setTopDeadline_mc (d : Deadline) (s : State) : (setTopDeadline d s).mc = s.mc := rfl
@[simp] theorem setTopDeadline_scan (d : Deadline) (s : State) : (setTopDeadline d s).scan = s.scan := rfl
@[simp] theorem setTopDeadline_srcs (d : Deadline) (s : State) : (setTopDeadline d s).srcs = s.srcs := rfl
@[simp] theorem setTopDeadline_arb (d : Deadline) (s : State) : (setTopDeadline d s).arb = s.arb := rfl
@[simp] theorem setTopDeadline_dl (d : Deadline) (s : State) : (setTopDeadline d s).dl = s.dl := rfl
@[simp] theorem setTopDeadline_act (d : Deadline) (s : State) : (setTopDeadline d s).act = s.act := rfl
@[simp] theorem setTopDeadline_jn (d : Deadline) (s : State) : (setTopDeadline d s).jn = s.jn := rfl
@[simp] theorem setTopDeadline_tc (d : Deadline) (s : State) : (setTopDeadline d s).tc = s.tc := rfl
@[simp] theorem setTopDeadline_svc_claimrec (d : Deadline) (s : State) :
    (setTopDeadline d s).svc.claimrec = s.svc.claimrec := rfl
@[simp] theorem setTopDeadline_svc_comprec0 (d : Deadline) (s : State) :
    (setTopDeadline d s).svc.comprec0 = s.svc.comprec0 := rfl
@[simp] theorem setTopDeadline_svc_comprec1 (d : Deadline) (s : State) :
    (setTopDeadline d s).svc.comprec1 = s.svc.comprec1 := rfl

/-! ## setClaimDeadline -/

@[simp] theorem setClaimDeadline_pending (i : SourceId) (d : Deadline) (s : State) :
    (setClaimDeadline i d s).pending = s.pending := rfl
@[simp] theorem setClaimDeadline_link (i : SourceId) (d : Deadline) (s : State) :
    (setClaimDeadline i d s).link = s.link := rfl
@[simp] theorem setClaimDeadline_rst (i : SourceId) (d : Deadline) (s : State) :
    (setClaimDeadline i d s).rst = s.rst := rfl
@[simp] theorem setClaimDeadline_regs (i : SourceId) (d : Deadline) (s : State) :
    (setClaimDeadline i d s).regs = s.regs := rfl
@[simp] theorem setClaimDeadline_mc (i : SourceId) (d : Deadline) (s : State) :
    (setClaimDeadline i d s).mc = s.mc := rfl
@[simp] theorem setClaimDeadline_scan (i : SourceId) (d : Deadline) (s : State) :
    (setClaimDeadline i d s).scan = s.scan := rfl
@[simp] theorem setClaimDeadline_srcs (i : SourceId) (d : Deadline) (s : State) :
    (setClaimDeadline i d s).srcs = s.srcs := rfl
@[simp] theorem setClaimDeadline_svc (i : SourceId) (d : Deadline) (s : State) :
    (setClaimDeadline i d s).svc = s.svc := rfl
@[simp] theorem setClaimDeadline_dl (i : SourceId) (d : Deadline) (s : State) :
    (setClaimDeadline i d s).dl = s.dl := rfl
@[simp] theorem setClaimDeadline_act (i : SourceId) (d : Deadline) (s : State) :
    (setClaimDeadline i d s).act = s.act := rfl
@[simp] theorem setClaimDeadline_jn (i : SourceId) (d : Deadline) (s : State) :
    (setClaimDeadline i d s).jn = s.jn := rfl
@[simp] theorem setClaimDeadline_tc (i : SourceId) (d : Deadline) (s : State) :
    (setClaimDeadline i d s).tc = s.tc := rfl
@[simp] theorem setClaimDeadline_arb_nextPosition (i : SourceId) (d : Deadline) (s : State) :
    (setClaimDeadline i d s).arb.nextPosition = s.arb.nextPosition := rfl
@[simp] theorem setClaimDeadline_arb_alert (i : SourceId) (d : Deadline) (s : State) :
    (setClaimDeadline i d s).arb.alert = s.arb.alert := rfl

/-! ## countOccurrence -/

@[simp] theorem countOccurrence_pending (i : SourceId) (d : Word) (s : State) :
    (countOccurrence i d s).pending = s.pending := rfl
@[simp] theorem countOccurrence_link (i : SourceId) (d : Word) (s : State) :
    (countOccurrence i d s).link = s.link := rfl
@[simp] theorem countOccurrence_rst (i : SourceId) (d : Word) (s : State) : (countOccurrence i d s).rst = s.rst := rfl
@[simp] theorem countOccurrence_regs (i : SourceId) (d : Word) (s : State) :
    (countOccurrence i d s).regs = s.regs := rfl
@[simp] theorem countOccurrence_mc (i : SourceId) (d : Word) (s : State) : (countOccurrence i d s).mc = s.mc := rfl
@[simp] theorem countOccurrence_scan (i : SourceId) (d : Word) (s : State) :
    (countOccurrence i d s).scan = s.scan := rfl
@[simp] theorem countOccurrence_arb (i : SourceId) (d : Word) (s : State) : (countOccurrence i d s).arb = s.arb := rfl
@[simp] theorem countOccurrence_svc (i : SourceId) (d : Word) (s : State) : (countOccurrence i d s).svc = s.svc := rfl
@[simp] theorem countOccurrence_dl (i : SourceId) (d : Word) (s : State) : (countOccurrence i d s).dl = s.dl := rfl
@[simp] theorem countOccurrence_act (i : SourceId) (d : Word) (s : State) : (countOccurrence i d s).act = s.act := rfl
@[simp] theorem countOccurrence_jn (i : SourceId) (d : Word) (s : State) : (countOccurrence i d s).jn = s.jn := rfl
@[simp] theorem countOccurrence_tc (i : SourceId) (d : Word) (s : State) : (countOccurrence i d s).tc = s.tc := rfl
@[simp] theorem countOccurrence_srcs_mask (i : SourceId) (d : Word) (s : State) :
    (countOccurrence i d s).srcs.mask = s.srcs.mask := rfl

/-! ## countRepeat -/

@[simp] theorem countRepeat_pending (i : SourceId) (d : Word) (s : State) :
    (countRepeat i d s).pending = s.pending := rfl
@[simp] theorem countRepeat_link (i : SourceId) (d : Word) (s : State) : (countRepeat i d s).link = s.link := rfl
@[simp] theorem countRepeat_rst (i : SourceId) (d : Word) (s : State) : (countRepeat i d s).rst = s.rst := rfl
@[simp] theorem countRepeat_regs (i : SourceId) (d : Word) (s : State) : (countRepeat i d s).regs = s.regs := rfl
@[simp] theorem countRepeat_mc (i : SourceId) (d : Word) (s : State) : (countRepeat i d s).mc = s.mc := rfl
@[simp] theorem countRepeat_scan (i : SourceId) (d : Word) (s : State) : (countRepeat i d s).scan = s.scan := rfl
@[simp] theorem countRepeat_arb (i : SourceId) (d : Word) (s : State) : (countRepeat i d s).arb = s.arb := rfl
@[simp] theorem countRepeat_svc (i : SourceId) (d : Word) (s : State) : (countRepeat i d s).svc = s.svc := rfl
@[simp] theorem countRepeat_dl (i : SourceId) (d : Word) (s : State) : (countRepeat i d s).dl = s.dl := rfl
@[simp] theorem countRepeat_act (i : SourceId) (d : Word) (s : State) : (countRepeat i d s).act = s.act := rfl
@[simp] theorem countRepeat_jn (i : SourceId) (d : Word) (s : State) : (countRepeat i d s).jn = s.jn := rfl
@[simp] theorem countRepeat_tc (i : SourceId) (d : Word) (s : State) : (countRepeat i d s).tc = s.tc := rfl
@[simp] theorem countRepeat_srcs_mask (i : SourceId) (d : Word) (s : State) :
    (countRepeat i d s).srcs.mask = s.srcs.mask := rfl

/-! ## advanceCounter -/

@[simp] theorem advanceCounter_pending (s : State) : (advanceCounter s).pending = s.pending := rfl
@[simp] theorem advanceCounter_link (s : State) : (advanceCounter s).link = s.link := rfl
@[simp] theorem advanceCounter_rst (s : State) : (advanceCounter s).rst = s.rst := rfl
@[simp] theorem advanceCounter_regs (s : State) : (advanceCounter s).regs = s.regs := rfl
@[simp] theorem advanceCounter_mc (s : State) : (advanceCounter s).mc = s.mc := rfl
@[simp] theorem advanceCounter_scan (s : State) : (advanceCounter s).scan = s.scan := rfl
@[simp] theorem advanceCounter_srcs (s : State) : (advanceCounter s).srcs = s.srcs := rfl
@[simp] theorem advanceCounter_arb (s : State) : (advanceCounter s).arb = s.arb := rfl
@[simp] theorem advanceCounter_svc (s : State) : (advanceCounter s).svc = s.svc := rfl
@[simp] theorem advanceCounter_dl (s : State) : (advanceCounter s).dl = s.dl := rfl
@[simp] theorem advanceCounter_act (s : State) : (advanceCounter s).act = s.act := rfl
@[simp] theorem advanceCounter_jn (s : State) : (advanceCounter s).jn = s.jn := rfl
@[simp] theorem advanceCounter_tc_snapshot (s : State) : (advanceCounter s).tc.snapshot = s.tc.snapshot := rfl
@[simp] theorem advanceCounter_tc_count (s : State) : (advanceCounter s).tc.count = s.tc.count + 1 := rfl

/-! ## sampleInputs -/

@[simp] theorem sampleInputs_pending (l : BitVec 24) (b : Word) (s : State) :
    (sampleInputs l b s).pending = s.pending := rfl
@[simp] theorem sampleInputs_link (l : BitVec 24) (b : Word) (s : State) : (sampleInputs l b s).link = s.link := rfl
@[simp] theorem sampleInputs_rst (l : BitVec 24) (b : Word) (s : State) : (sampleInputs l b s).rst = s.rst := rfl
@[simp] theorem sampleInputs_regs (l : BitVec 24) (b : Word) (s : State) : (sampleInputs l b s).regs = s.regs := rfl
@[simp] theorem sampleInputs_mc (l : BitVec 24) (b : Word) (s : State) : (sampleInputs l b s).mc = s.mc := rfl
@[simp] theorem sampleInputs_srcs (l : BitVec 24) (b : Word) (s : State) : (sampleInputs l b s).srcs = s.srcs := rfl
@[simp] theorem sampleInputs_arb (l : BitVec 24) (b : Word) (s : State) : (sampleInputs l b s).arb = s.arb := rfl
@[simp] theorem sampleInputs_svc (l : BitVec 24) (b : Word) (s : State) : (sampleInputs l b s).svc = s.svc := rfl
@[simp] theorem sampleInputs_dl (l : BitVec 24) (b : Word) (s : State) : (sampleInputs l b s).dl = s.dl := rfl
@[simp] theorem sampleInputs_act (l : BitVec 24) (b : Word) (s : State) : (sampleInputs l b s).act = s.act := rfl
@[simp] theorem sampleInputs_jn (l : BitVec 24) (b : Word) (s : State) : (sampleInputs l b s).jn = s.jn := rfl
@[simp] theorem sampleInputs_tc (l : BitVec 24) (b : Word) (s : State) : (sampleInputs l b s).tc = s.tc := rfl

/-! ## The tables after a write -/

/-- The source written is the one read back. -/
@[simp] theorem src_setSrc_self (s : State) (i : SourceId) (x : Source) : (s.setSrc i x).src i = x := by
  change (s.srcs.table.set i.val x i.isLt)[i.val] = x
  simp

/-- A write of one source leaves every other source. -/
theorem src_setSrc_ne (s : State) {i j : SourceId} (h : i ≠ j) (x : Source) :
    (s.setSrc i x).src j = s.src j := by
  have : i.val ≠ j.val := fun e => h (Fin.ext e)
  change (s.srcs.table.set i.val x i.isLt)[j.val] = s.srcs.table[j.val]
  simp [this]

/-- The source table after a write, read at any source. -/
theorem src_setSrc (s : State) (i j : SourceId) (x : Source) :
    (s.setSrc i x).src j = if i = j then x else s.src j := by
  by_cases h : i = j
  · subst h; simp
  · simp [h, src_setSrc_ne s h]

/-- A set written is the one read back. -/
@[simp] theorem set_putSet_self (s : State) (k : SetId) (x : ReactionSet) : (s.putSet k x).set k = x := by
  change (s.act.sets.set k.val x k.isLt)[k.val] = x
  simp

/-- A write of one reaction set leaves every other set. -/
theorem set_putSet_ne (s : State) {k j : SetId} (h : k ≠ j) (x : ReactionSet) :
    (s.putSet k x).set j = s.set j := by
  have : k.val ≠ j.val := fun e => h (Fin.ext e)
  change (s.act.sets.set k.val x k.isLt)[j.val] = s.act.sets[j.val]
  simp [this]

/-- The reaction-set table after a write, read at any set. -/
theorem set_putSet (s : State) (k j : SetId) (x : ReactionSet) :
    (s.putSet k x).set j = if k = j then x else s.set j := by
  by_cases h : k = j
  · subst h; simp
  · simp [h, set_putSet_ne s h]

/-- Writing back the source that stands in the table changes nothing. -/
@[simp] theorem setSrc_src (s : State) (i : SourceId) : s.setSrc i (s.src i) = s := by
  have h : s.srcs.table.set i.val (s.src i) i.isLt = s.srcs.table := by
    change s.srcs.table.set i.val s.srcs.table[i.val] i.isLt = s.srcs.table
    simp
  simp [State.setSrc, h]

/-- Of two writes of one source the later one stands. -/
@[simp] theorem setSrc_setSrc (s : State) (i : SourceId) (x y : Source) :
    (s.setSrc i x).setSrc i y = s.setSrc i y := by
  simp [State.setSrc]

/-- A bit of a word given bit by bit. -/
@[simp] theorem getLsbD_wordOf (f : Channel → Bool) (c : Channel) : (wordOf f).getLsbD c.val = f c := by
  simp [wordOf]

/-- Two words that agree on every channel are equal. -/
theorem word_ext {a b : Word} (h : ∀ c : Channel, a.getLsbD c.val = b.getLsbD c.val) : a = b :=
  BitVec.eq_of_getLsbD_eq fun i hi => h ⟨i, hi⟩

end Sys2Proof.Machine
end

