-- ==== Sys2Proof/Laws/Ops.lean ====
section
/-! SUPPORT. For each shared operation of the serial engine, what it can do: the journal touches only the journal and
the derived occurrences, a hold mark only the hold, a reaction only the actuation unit and the journal, an entry to
Lockdown only the mode unit and the journal; and how occurrences, the drain of derived occurrences and the end of a
happening answer case by case. -/

namespace Sys2Proof.Machine

/-! ## Saturating counts -/

/-- A saturating count as a minimum. -/
theorem satInc_eq (b : Byte) : satInc b = BitVec.ofNat 8 (min 255 (b.toNat + 1)) := by
  revert b; decide

/-! ## Deadlines -/

@[simp] theorem counted_none : Deadline.counted .none = .none := rfl
@[simp] theorem counted_spent : Deadline.counted .spent = .spent := rfl
/-- A remainder that does not run out at its count falls by one (R128, R132). -/
theorem counted_running {n : Nat} (h : 1 < n) : Deadline.counted (.runningDown n) = .runningDown (n - 1) := by
  simp only [Deadline.counted, if_neg (Nat.not_le.mpr h)]
/-- A deadline that runs out at its count is Spent (R128, R132). -/
theorem counted_of_due {d : Deadline} (h : d.due = true) : d.counted = .spent := by
  cases d <;> simp_all [Deadline.due, Deadline.counted]
@[simp] theorem loaded_zero (ticks : Nat) : Deadline.loaded 0 ticks = .none := rfl
/-- An entry that joins the list has its claim deadline as it is loaded (R127). -/
theorem freshClaimDeadline_eq (x : Source) :
    x.freshClaimDeadline = Deadline.loaded (x.w2.extractLsb' 8 8).toNat 10 := rfl
/-- An entry that is pushed has its service deadline as it is loaded (R131). -/
theorem freshServiceDeadline_eq (x : Source) :
    x.freshServiceDeadline = Deadline.loaded (x.w2.extractLsb' 0 8).toNat 100 := rfl

/-! ## A happening in progress -/

@[simp] theorem begin_st (s : State) : (begin s).st = s := rfl
@[simp] theorem begin_derived (s : State) : (begin s).derived = [] := rfl
@[simp] theorem map_st (f : State → State) (w : Work) : (w.map f).st = f w.st := rfl
@[simp] theorem map_derived (f : State → State) (w : Work) : (w.map f).derived = w.derived := rfl
@[simp] theorem map_startedRunning (f : State → State) (w : Work) :
    (w.map f).startedRunning = w.startedRunning := rfl

/-! ## The journal -/

/-- A lost record changes the lost count and the derived occurrences (R156). -/
theorem loseRecord_st (w : Work) :
    (loseRecord w).st = { w.st with jn := { w.st.jn with lost := satInc w.st.jn.lost } } := rfl

/-- An admitted record changes the unread records and the lost count (R155, R156). -/
theorem joinJournal_st (f : Bool) (r : Words4) (w : Work) :
    (joinJournal f r w).st =
      { w.st with jn := { w.st.jn with
          unread := (joinJournal f r w).st.jn.unread
          lost := (joinJournal f r w).st.jn.lost } } := by
  unfold joinJournal
  dsimp only
  split
  · rfl
  · split
    · rfl
    · split <;> rfl

/-- An admitted record does not change whether the happening began in Running. -/
@[simp] theorem joinJournal_startedRunning (f : Bool) (r : Words4) (w : Work) :
    (joinJournal f r w).startedRunning = w.startedRunning := by
  unfold joinJournal
  dsimp only
  split
  · rfl
  · split
    · rfl
    · split <;> rfl

/-- The journal stays within its limit (R155). -/
theorem joinJournal_unread_le (f : Bool) (r : Words4) (w : Work)
    (h : w.st.jn.unread.length ≤ Config.journalLimit) :
    (joinJournal f r w).st.jn.unread.length ≤ Config.journalLimit := by
  have hl : 1 ≤ Config.journalLimit := by decide
  unfold joinJournal
  dsimp only
  split
  · simp; omega
  · split
    · simp [loseRecord_st]; omega
    · split
      · simp [loseRecord_st]; omega
      · exact h

/-- The state of a happening after an event that calls for a record is the state before with other unread records
and another lost count. -/
theorem writeRecord_st (k : RecordKind) (source : Option SourceId) (detail : Word) (w : Work) :
    (writeRecord k source detail w).st =
      { w.st with jn := { w.st.jn with
          unread := (writeRecord k source detail w).st.jn.unread
          lost := (writeRecord k source detail w).st.jn.lost } } := by
  unfold writeRecord
  split
  · exact joinJournal_st _ _ _
  · rfl

/-- A record does not change whether the happening began in Running. -/
@[simp] theorem writeRecord_startedRunning (k : RecordKind) (source : Option SourceId) (detail : Word) (w : Work) :
    (writeRecord k source detail w).startedRunning = w.startedRunning := by
  unfold writeRecord
  split <;> simp

section
variable (k : RecordKind) (source : Option SourceId) (detail : Word) (w : Work)

@[simp] theorem writeRecord_pending : (writeRecord k source detail w).st.pending = w.st.pending := by
  rw [writeRecord_st]
@[simp] theorem writeRecord_link : (writeRecord k source detail w).st.link = w.st.link := by rw [writeRecord_st]
@[simp] theorem writeRecord_rst : (writeRecord k source detail w).st.rst = w.st.rst := by rw [writeRecord_st]
@[simp] theorem writeRecord_regs : (writeRecord k source detail w).st.regs = w.st.regs := by rw [writeRecord_st]
@[simp] theorem writeRecord_mc : (writeRecord k source detail w).st.mc = w.st.mc := by rw [writeRecord_st]
@[simp] theorem writeRecord_scan : (writeRecord k source detail w).st.scan = w.st.scan := by rw [writeRecord_st]
@[simp] theorem writeRecord_srcs : (writeRecord k source detail w).st.srcs = w.st.srcs := by rw [writeRecord_st]
@[simp] theorem writeRecord_arb : (writeRecord k source detail w).st.arb = w.st.arb := by rw [writeRecord_st]
@[simp] theorem writeRecord_svc : (writeRecord k source detail w).st.svc = w.st.svc := by rw [writeRecord_st]
@[simp] theorem writeRecord_dl : (writeRecord k source detail w).st.dl = w.st.dl := by rw [writeRecord_st]
@[simp] theorem writeRecord_act : (writeRecord k source detail w).st.act = w.st.act := by rw [writeRecord_st]
@[simp] theorem writeRecord_tc : (writeRecord k source detail w).st.tc = w.st.tc := by rw [writeRecord_st]
@[simp] theorem writeRecord_window :
    (writeRecord k source detail w).st.jn.window = w.st.jn.window := by rw [writeRecord_st]
@[simp] theorem writeRecord_filter :
    (writeRecord k source detail w).st.jn.filter = w.st.jn.filter := by rw [writeRecord_st]
@[simp] theorem writeRecord_src (i : SourceId) : (writeRecord k source detail w).st.src i = w.st.src i := by
  simp [State.src]
@[simp] theorem writeRecord_set (n : SetId) : (writeRecord k source detail w).st.set n = w.st.set n := by
  simp [State.set]
@[simp] theorem writeRecord_live : (writeRecord k source detail w).live = w.live := by simp [Work.live]

end

/-- The journal stays within its limit (R155). -/
theorem writeRecord_unread_le (k : RecordKind) (source : Option SourceId) (detail : Word) (w : Work)
    (h : w.st.jn.unread.length ≤ Config.journalLimit) :
    (writeRecord k source detail w).st.jn.unread.length ≤ Config.journalLimit := by
  unfold writeRecord
  split
  · exact joinJournal_unread_le _ _ _ h
  · exact h

/-- An event that calls for a record while the journal is calm: the record is written as `wrote` says, and no
occurrence is derived (R153, R155, R156). -/
theorem writeRecord_calm (k : RecordKind) (source : Option SourceId) (detail : Word) (w : Work)
    (h : w.st.calm 1) :
    writeRecord k source detail w = { w with st := w.st.wrote k source detail } := by
  rcases w with ⟨s, b, d⟩
  unfold writeRecord joinJournal loseRecord State.wrote satInc State.calm at *
  simp only [Work.map, setUnread] at *
  by_cases ha : s.recordAdmitted k source = true
  · by_cases hl : s.jn.unread.length < Config.journalLimit
    · simp [ha, hl]
    · have hq : (s.src journalId).armed = false := by
        rcases h with h | h
        · exact absurd (by omega) hl
        · exact h
      have hq' : ∀ n : List Words4, State.src { s with jn := { s.jn with unread := n } } journalId
          = s.src journalId := fun _ => rfl
      by_cases ho : s.overwriteOldest = true
      · simp [ha, hl, ho, hq', hq]; split <;> simp_all
      · by_cases hf : k.forced = true
        · simp [ha, hl, ho, hf, hq', hq]; split <;> simp_all
        · simp [ha, hl, ho, hf, hq]; split <;> simp_all
  · simp [ha]

/-! ## Holds and masks -/

/-- A hold mark changes nothing but the hold, and that not in where it is placed (R35). -/
theorem markHold_eq (n : Byte) (s : State) :
    markHold n s = { s with link := { s.link with
      hold := s.link.hold.map fun h => { h with changed := h.changed || h.index == n } } } := by
  rcases s with ⟨pending, link, rst, regs, mc, scan, srcs, arb, svc, dl, act, jn, tc⟩
  rcases link with ⟨a, b, c, d, e, f, g, r, lf, lc, p, hold⟩
  unfold markHold
  cases hold with
  | none => rfl
  | some h =>
    by_cases hn : h.index = n
    · simp [hn]
    · have : (h.index == n) = false := by simp [hn]
      simp [hn, this]

/-- Self-mask sets the source's mask bit, and changes nothing else but a hold on its register (R74). -/
theorem selfMask_eq (i : SourceId) (s : State) :
    selfMask i s = { s with
      srcs := { s.srcs with mask := if s.masked i then s.srcs.mask else setBit s.srcs.mask i.val }
      link := (selfMask i s).link } := by
  unfold selfMask
  split
  · rfl
  · rw [markHold_eq]

/-! ## Reactions and Lockdown -/

/-- A reaction changes the actuation unit and the journal only (R141). -/
theorem applyReaction_st (i : SourceId) (w : Work) :
    (applyReaction i w).st = { w.st with act := (applyReaction i w).st.act, jn := (applyReaction i w).st.jn } := by
  unfold applyReaction
  dsimp only
  split
  · rfl
  · rw [writeRecord_st]; simp

/-- A reaction leaves the levels that the host sets, the readback check and the effective levels (R141). -/
theorem applyReaction_act (i : SourceId) (w : Work) :
    (applyReaction i w).st.act = { w.st.act with
      sets := (applyReaction i w).st.act.sets
      frozen := (applyReaction i w).st.act.frozen
      frozenLevel := (applyReaction i w).st.act.frozenLevel } := by
  unfold applyReaction
  dsimp only
  split
  · rfl
  · simp
    rfl

/-- An entry to Lockdown changes the mode, the lockdown record, cause-seen and the journal only (R124). -/
theorem enterLockdown_st (cause : BitVec 4) (source : Option SourceId) (second : BitVec 5) (w : Work) :
    (enterLockdown cause source second w).st = { w.st with
      mc := { w.st.mc with
        mode := .lockdown
        lockrec := cause ++ 0#2 ++ (match source with | some i => sourceBits i | none => 0) ++ second
        locktick := w.st.tc.count.extractLsb' 0 16
        causeSeen := false }
      jn := (enterLockdown cause source second w).st.jn } := by
  unfold enterLockdown writeModeRecord
  rw [writeRecord_st]
  simp [Work.map] <;> rfl

/-- After an entry to Lockdown the happening is abandoned (R94, R124). -/
@[simp] theorem enterLockdown_live (cause : BitVec 4) (source : Option SourceId) (second : BitVec 5) (w : Work) :
    (enterLockdown cause source second w).live = false := by
  unfold Work.live
  rw [enterLockdown_st]
  rfl

/-! ## Occurrences -/

/-- Nothing occurs outside Running (R76). -/
theorem occur_of_not_live {w : Work} (h : w.live = false) (i : SourceId) (detail : Word) :
    occur i detail w = w := by
  unfold occur; simp [h]

/-- A Disarmed source has no occurrence (R76). -/
theorem occur_disarmed {w : Work} {i : SourceId} (h : (w.st.src i).state = .disarmed) (detail : Word) :
    occur i detail w = w := by
  unfold occur; simp [h]

/-- A Quiet source has a first latch (R81). -/
theorem occur_quiet {w : Work} {i : SourceId} (hl : w.live = true) (h : (w.st.src i).state = .quiet)
    (detail : Word) : occur i detail w = firstLatch i detail w := by
  unfold occur; simp [hl, h]

/-- A Pending or Absorbed source is counted (R84). -/
theorem occur_counted {w : Work} {i : SourceId} (hl : w.live = true)
    (h : (w.st.src i).state = .pending ∨ (w.st.src i).state = .absorbed) (detail : Word) :
    occur i detail w = w.map (countOccurrence i detail) := by
  unfold occur; rcases h with h | h <;> simp [hl, h]

/-- A Serving source keeps the occurrence back if it asks for repeats, and discards it otherwise (R85). -/
theorem occur_serving {w : Work} {i : SourceId} (hl : w.live = true) (h : (w.st.src i).state = .serving)
    (detail : Word) :
    occur i detail w = if (w.st.src i).repeats then w.map (countRepeat i detail) else w := by
  unfold occur; simp [hl, h]

/-- One waiting occurrence is processed, and the losses in its processing call for none (R80, R156). -/
theorem drain_of_one {w : Work} {d : Word} (h : w.derived = [d]) :
    drain w = occurJournal d { w with derived := [] } := by
  simp [drain, h]

/-- With no derived occurrence there is nothing to drain. -/
theorem drain_of_nil {w : Work} (h : w.derived = []) : drain w = w := by
  rcases w with ⟨s, b, d⟩
  subst h; rfl

/-- After an abandoned happening the drain leaves the state (R94). -/
theorem drain_st_of_not_live {w : Work} (h : w.live = false) : (drain w).st = w.st := by
  unfold drain
  suffices ∀ (l : List Word) (v : Work), v.live = false → (l.foldl (fun v d => occurJournal d v) v).st = v.st from
    this w.derived _ h
  intro l
  induction l with
  | nil => intro v _; rfl
  | cons d l ih =>
    intro v hv
    have hj : occurJournal d v = v := by
      unfold occurJournal; rw [occur_of_not_live hv]
    rw [List.foldl_cons, hj]
    exact ih v hv

/-- Derived occurrences of a Disarmed JOURNAL leave the state. -/
theorem drain_st_of_disarmed {w : Work} (h : (w.st.src journalId).state = .disarmed) : (drain w).st = w.st := by
  unfold drain
  suffices ∀ (l : List Word) (v : Work), (v.st.src journalId).state = .disarmed →
      (l.foldl (fun v d => occurJournal d v) v).st = v.st from this w.derived _ h
  intro l
  induction l with
  | nil => intro v _; rfl
  | cons d l ih =>
    intro v hv
    have hj : occurJournal d v = v := by
      unfold occurJournal; rw [occur_disarmed hv]
    rw [List.foldl_cons, hj]
    exact ih v hv

/-! ## The end of a happening -/

/-- A happening with no derived occurrence ends with the end-of-happening updates (R92). -/
theorem finish_of_nil {w : Work} (h : w.derived = []) : finish w = endHappening w.st := by
  unfold finish; rw [drain_of_nil h]

/-- A happening that began outside Running and derived nothing ends with the end-of-happening updates. -/
@[simp] theorem finish_begin_map (f : State → State) (s : State) :
    finish ((begin s).map f) = endHappening (f s) := rfl

/-- The effective levels do not depend on those driven before (R143). -/
@[simp] theorem effectiveWord_endHappening (s : State) : (endHappening s).effectiveWord = s.effectiveWord := rfl

/-- The alert condition does not depend on what the end-of-happening updates set (R91, R92). -/
@[simp] theorem alertCondition_endHappening (s : State) :
    (endHappening s).alertCondition = s.alertCondition := rfl

/-- ALERT shows the alert condition when a happening ends (R91, R92). -/
@[simp] theorem endHappening_alert (s : State) : (endHappening s).arb.alert = s.alertCondition := rfl

/-- Where the pins stand as they should, the end-of-happening updates change nothing (R92). -/
theorem endHappening_of_settled {s : State} (he : s.act.effective = s.effectiveWord)
    (ha : s.arb.alert = s.alertCondition) : endHappening s = s := by
  have hc : (recomputeLevels s).alertCondition = s.alertCondition := rfl
  unfold endHappening setAlert
  rw [hc, ← ha]
  unfold recomputeLevels
  rw [← he, BitVec.xor_self, BitVec.or_zero]

/-! ## Descriptor words -/

/-- What a write stores in COMPOUND's W1: its react-when follows its set, and the other fields are as written (R67). -/
theorem storedW1_reactWhen (data : Word) :
    (storedW1 compoundId data).extractLsb' 7 2 = (if data.extractLsb' 9 3 = 0 then 0#2 else 1#2)
    ∧ (storedW1 compoundId data).extractLsb' 9 3 = data.extractLsb' 9 3
    ∧ (storedW1 compoundId data).extractLsb' 0 4 = data.extractLsb' 0 4 := by
  simp only [storedW1, if_true]
  generalize (if data.extractLsb' 9 3 = 0 then 0#2 else 1#2) = b
  refine ⟨?_, ?_, ?_⟩ <;> ext i hi <;>
    simp only [BitVec.getElem_extractLsb', BitVec.getLsbD_append, BitVec.getLsbD_extractLsb'] <;>
    (have : i = 0 ∨ i = 1 ∨ i = 2 ∨ i = 3 := by omega) <;>
    rcases this with rfl | rfl | rfl | rfl <;> first | omega | simp_all

end Sys2Proof.Machine
end

