-- ==== Sys2Proof/Laws/Frame.lean ====
section
/-! SUPPORT. The frame of the engine's operations: what occurrences, latches, reactions, records, claims and
completions leave as it was, said once for each operation. -/

namespace Sys2Proof.Machine

/-- `t` comes from `s` by the engine's work on events: everything that this work never touches is the same. -/
structure EngineFrame (s t : State) : Prop where
  pending : t.pending = s.pending
  rst     : t.rst = s.rst
  regs    : t.regs = s.regs
  scan    : t.scan = s.scan
  dl      : t.dl = s.dl
  tc      : t.tc = s.tc
  link    : t.link = { s.link with hold := t.link.hold }
  act     : t.act = { s.act with sets := t.act.sets, frozen := t.act.frozen, frozenLevel := t.act.frozenLevel }
  jn      : t.jn = { s.jn with unread := t.jn.unread, lost := t.jn.lost }
  identity : t.mc.nodeId = s.mc.nodeId ∧ t.mc.resetCause = s.mc.resetCause
  mode    : t.mc.mode = s.mc.mode ∨ t.mc.mode = .lockdown
  words   : ∀ i : SourceId, (t.src i).w0 = (s.src i).w0 ∧ (t.src i).w1 = (s.src i).w1 ∧ (t.src i).w2 = (s.src i).w2
  sets    : ∀ k : SetId, (t.set k).wordA = (s.set k).wordA ∧ (t.set k).wordB = (s.set k).wordB

theorem EngineFrame.refl (s : State) : EngineFrame s s where
  pending := rfl
  rst := rfl
  regs := rfl
  scan := rfl
  dl := rfl
  tc := rfl
  link := rfl
  act := rfl
  jn := rfl
  identity := ⟨rfl, rfl⟩
  mode := .inl rfl
  words := fun _ => ⟨rfl, rfl, rfl⟩
  sets := fun _ => ⟨rfl, rfl⟩

theorem EngineFrame.trans {s t u : State} (h : EngineFrame s t) (g : EngineFrame t u) : EngineFrame s u where
  pending := g.pending.trans h.pending
  rst := g.rst.trans h.rst
  regs := g.regs.trans h.regs
  scan := g.scan.trans h.scan
  dl := g.dl.trans h.dl
  tc := g.tc.trans h.tc
  link := by rw [g.link, h.link]
  act := by rw [g.act, h.act]
  jn := by rw [g.jn, h.jn]
  identity := ⟨g.identity.1.trans h.identity.1, g.identity.2.trans h.identity.2⟩
  mode := by
    rcases g.mode with a | a
    · rcases h.mode with b | b
      · exact .inl (a.trans b)
      · exact .inr (a.trans b)
    · exact .inr a
  words := fun i =>
    ⟨(g.words i).1.trans (h.words i).1, (g.words i).2.1.trans (h.words i).2.1, (g.words i).2.2.trans (h.words i).2.2⟩
  sets := fun k => ⟨(g.sets k).1.trans (h.sets k).1, (g.sets k).2.trans (h.sets k).2⟩

/-! ## Updates of the state -/

/-- A source replaced by one with the same descriptor words. -/
theorem frame_setSrc {s : State} {i : SourceId} {x : Source} (h0 : x.w0 = (s.src i).w0) (h1 : x.w1 = (s.src i).w1)
    (h2 : x.w2 = (s.src i).w2) : EngineFrame s (s.setSrc i x) :=
  { EngineFrame.refl s with
    words := fun j => by
      rw [src_setSrc]
      split
      · next h => subst h; exact ⟨h0, h1, h2⟩
      · exact ⟨rfl, rfl, rfl⟩ }

/-- Another pending list, latch count or stack, claimed or compound record. -/
theorem frame_lists (s : State) (a : Arbiter) (v : ServiceUnit) : EngineFrame s { s with arb := a, svc := v } :=
  { EngineFrame.refl s with words := fun _ => ⟨rfl, rfl, rfl⟩ }

theorem frame_takePosition (i : SourceId) (s : State) : EngineFrame s (takePosition i s) := by
  unfold takePosition
  refine EngineFrame.trans ?_ (frame_lists _ _ _)
  exact frame_setSrc rfl rfl rfl

theorem frame_joinPending (i : SourceId) (s : State) : EngineFrame s (joinPending i s) := by
  unfold joinPending
  refine EngineFrame.trans ?_ (frame_lists _ _ _)
  exact frame_setSrc rfl rfl rfl

theorem frame_pushEntry (i : SourceId) (a : Bool) (s : State) : EngineFrame s (pushEntry i a s) :=
  frame_lists s _ _

theorem frame_markHold (n : Byte) (s : State) : EngineFrame s (markHold n s) := by
  rw [markHold_eq]
  exact { EngineFrame.refl s with link := rfl, words := fun _ => ⟨rfl, rfl, rfl⟩ }

theorem frame_selfMask (i : SourceId) (s : State) : EngineFrame s (selfMask i s) := by
  unfold selfMask
  split
  · exact EngineFrame.refl s
  · exact EngineFrame.trans (t := { s with srcs := { s.srcs with mask := setBit s.srcs.mask i.val } })
      { EngineFrame.refl s with words := fun _ => ⟨rfl, rfl, rfl⟩ } (frame_markHold _ _)

theorem frame_captureFreezes (k : SetId) (s : State) : EngineFrame s (captureFreezes k s) :=
  { EngineFrame.refl s with act := rfl, words := fun _ => ⟨rfl, rfl, rfl⟩ }

theorem frame_bind (k : SetId) (i : SourceId) (s : State) : EngineFrame s (s.putSet k ((s.set k).bind i)) :=
  { EngineFrame.refl s with
    act := rfl
    sets := fun j => by
      rw [set_putSet]
      split
      · next h => subst h; exact ⟨rfl, rfl⟩
      · exact ⟨rfl, rfl⟩ }

theorem frame_countOccurrence (i : SourceId) (d : Word) (s : State) : EngineFrame s (countOccurrence i d s) :=
  frame_setSrc rfl rfl rfl

theorem frame_countRepeat (i : SourceId) (d : Word) (s : State) : EngineFrame s (countRepeat i d s) :=
  frame_setSrc rfl rfl rfl

/-! ## Operations on a happening -/

theorem frame_writeRecord (k : RecordKind) (source : Option SourceId) (detail : Word) (w : Work) :
    EngineFrame w.st (writeRecord k source detail w).st := by
  rw [writeRecord_st]
  exact { EngineFrame.refl w.st with jn := rfl, words := fun _ => ⟨rfl, rfl, rfl⟩ }

theorem frame_applyReaction (i : SourceId) (w : Work) : EngineFrame w.st (applyReaction i w).st := by
  unfold applyReaction
  dsimp only
  split
  · exact EngineFrame.refl _
  · refine EngineFrame.trans ?_ (frame_writeRecord _ _ _ _)
    exact (frame_bind _ _ _).trans (frame_captureFreezes _ _)

theorem frame_enterLockdown (cause : BitVec 4) (source : Option SourceId) (second : BitVec 5) (w : Work) :
    EngineFrame w.st (enterLockdown cause source second w).st := by
  unfold enterLockdown writeModeRecord
  refine EngineFrame.trans ?_ (frame_writeRecord _ _ _ _)
  refine EngineFrame.trans ?_ (frame_writeRecord _ _ _ _)
  exact { EngineFrame.refl w.st with
    identity := ⟨rfl, rfl⟩, mode := .inr rfl, words := fun _ => ⟨rfl, rfl, rfl⟩ }

theorem frame_normalLatch (i : SourceId) (detail : Word) (w : Work) : EngineFrame w.st (normalLatch i detail w).st := by
  unfold normalLatch
  dsimp only
  refine EngineFrame.trans ?_ (frame_writeRecord _ _ _ _)
  have h1 : EngineFrame w.st (if (w.st.src i).reactWhen = .atLatch then applyReaction i w else w).st := by
    split
    · exact frame_applyReaction i w
    · exact EngineFrame.refl _
  refine EngineFrame.trans h1 ?_
  generalize (if (w.st.src i).reactWhen = .atLatch then applyReaction i w else w) = v
  have h2 : EngineFrame v.st
      (joinPending i (takePosition i (v.st.setSrc i { v.st.src i with count := 1, detail := detail }))) := by
    refine EngineFrame.trans ?_ (frame_joinPending _ _)
    refine EngineFrame.trans ?_ (frame_takePosition _ _)
    exact frame_setSrc rfl rfl rfl
  split
  · exact h2.trans (frame_selfMask _ _)
  · exact h2

theorem frame_absorb (i : SourceId) (detail : Word) (partner : SourceId) (w : Work) :
    EngineFrame w.st (absorb i detail partner w).st := by
  unfold absorb
  dsimp only
  refine EngineFrame.trans ?_ (frame_writeRecord _ _ _ _)
  have h1 : EngineFrame w.st (if (w.st.src i).reactWhen = .atLatch then applyReaction i w else w).st := by
    split
    · exact frame_applyReaction i w
    · exact EngineFrame.refl _
  refine EngineFrame.trans h1 (EngineFrame.trans ?_ (frame_takePosition _ _))
  exact frame_setSrc rfl rfl rfl

theorem frame_pushCompound (first second : SourceId) (w : Work) :
    EngineFrame w.st (pushCompound first second w).st := by
  unfold pushCompound
  dsimp only
  refine EngineFrame.trans ?_ (frame_applyReaction _ _)
  refine EngineFrame.trans ?_ (frame_writeRecord _ _ _ _)
  refine EngineFrame.trans ?_ (frame_lists _ _ _)
  refine EngineFrame.trans (frame_pushEntry compoundId false w.st) ?_
  exact frame_setSrc rfl rfl rfl

theorem frame_firstLatch (i : SourceId) (detail : Word) (w : Work) : EngineFrame w.st (firstLatch i detail w).st := by
  unfold firstLatch
  split
  · exact frame_normalLatch i detail w
  · unfold compoundLatch
    split
    · exact EngineFrame.refl _
    · dsimp only
      split
      · exact (frame_absorb _ _ _ _).trans (frame_pushCompound _ _ _)
      · exact (frame_absorb _ _ _ _).trans (frame_enterLockdown _ _ _ _)
  · exact frame_enterLockdown _ _ _ w

theorem frame_occur (i : SourceId) (detail : Word) (w : Work) : EngineFrame w.st (occur i detail w).st := by
  unfold occur
  split
  · split
    · exact EngineFrame.refl _
    · exact frame_firstLatch i detail w
    · exact frame_countOccurrence i detail _
    · exact frame_countOccurrence i detail _
    · split
      · exact frame_countRepeat i detail _
      · exact EngineFrame.refl _
  · exact EngineFrame.refl _

theorem frame_drain (w : Work) : EngineFrame w.st (drain w).st := by
  unfold drain
  suffices ∀ (l : List Word) (v : Work), EngineFrame v.st (l.foldl (fun v d => occurJournal d v) v).st from
    this w.derived { w with derived := [] }
  intro l
  induction l with
  | nil => intro v; exact EngineFrame.refl _
  | cons d l ih => intro v; exact (frame_occur journalId d v).trans (ih (occurJournal d v))

theorem frame_occurAll (i : SourceId) (detail : Word) (w : Work) : EngineFrame w.st (occurAll i detail w).st :=
  (frame_occur i detail w).trans (frame_drain _)

/-! ## Claim and completion -/

theorem frame_claimCandidate (i : SourceId) (w : Work) : EngineFrame w.st (claimCandidate i w).st := by
  unfold claimCandidate
  dsimp only
  refine EngineFrame.trans ?_ (frame_writeRecord _ _ _ _)
  refine EngineFrame.trans (t := pushEntry i true { w.st with
    arb := { w.st.arb with waiting := w.st.arb.waiting.filter (·.source != i) }
    svc := { w.st.svc with claimrec := w.st.claimRecordOf i } }) ?_ (frame_setSrc rfl rfl rfl)
  exact (frame_lists w.st _ _).trans (frame_pushEntry _ _ _)

theorem frame_announceCompound (w : Work) : EngineFrame w.st (announceCompound w).st := by
  unfold announceCompound
  dsimp only
  refine EngineFrame.trans ?_ (frame_writeRecord _ _ _ _)
  exact frame_lists w.st _ _

theorem frame_settleCompleted (i : SourceId) (s : State) : EngineFrame s (settleCompleted i s) := by
  unfold settleCompleted
  split
  · unfold releaseAbsorbed
    dsimp only
    split
    · refine EngineFrame.trans ?_ (frame_joinPending _ _)
      exact frame_setSrc rfl rfl rfl
    · exact frame_setSrc rfl rfl rfl
  · split
    · unfold relatch
      refine EngineFrame.trans ?_ (frame_joinPending _ _)
      refine EngineFrame.trans ?_ (frame_takePosition _ _)
      refine EngineFrame.trans (t := s.setSrc i { s.src i with state := .quiet }) (frame_setSrc rfl rfl rfl) ?_
      exact frame_setSrc rfl rfl rfl
    · exact frame_setSrc rfl rfl rfl

theorem frame_completeTop (i : SourceId) (w : Work) : EngineFrame w.st (completeTop i w).st := by
  unfold completeTop
  dsimp only
  refine EngineFrame.trans ?_ (frame_settleCompleted _ _)
  refine EngineFrame.trans ?_ (frame_writeRecord _ _ _ _)
  exact frame_lists w.st _ _

end Sys2Proof.Machine
end

