-- ==== Sys2Proof/Laws/Link.lean ====
section
/-! SUPPORT. What the link does with a frame: a request's fields come back from its bits and pass the Check and Form
checks; a frame that an idle link receives is judged by the admission checks on the state in which the receipt has
been built; and every command answers a next state. -/

namespace Sys2Proof.Machine

/-! ## Request frames -/

/-- Every operation comes back from its code (R6). -/
@[simp] theorem opOf_opCode (op : FrameOp) : opOf (opCode op) = op := by cases op <;> decide

/-- The fields of a request come back from its bits (R6). -/
@[simp] theorem parseFrame_frame (r : Request) : parseFrame r.frame = r := by
  rcases r with ⟨reach, op, node, index, data, tag, reserved, crc⟩
  simp only [parseFrame, Request.frame, Request.body, Request.mk.injEq]
  refine ⟨?_, ?_, ?_, ?_, ?_, ?_, ?_, ?_⟩ <;>
    (ext j hj; simp only [BitVec.getElem_extractLsb', BitVec.getLsbD_append]; grind)

/-- A request passes the Check check (R7, R10). -/
@[simp] theorem crcOk_request (dest : Dest) (op : FrameOp) (index : Byte) (data : Word) (tag : BitVec 4) :
    (request dest op index data tag).crcOk = true := by
  simp [Request.crcOk, request, Request.body]

section
variable (dest : Dest) (op : FrameOp) (index : Byte) (data : Word) (tag : BitVec 4)

@[simp] theorem request_reach : (request dest op index data tag).reach = destReach dest := rfl
@[simp] theorem request_op : (request dest op index data tag).op = opCode op := rfl
@[simp] theorem request_node : (request dest op index data tag).node = destNode dest := rfl
@[simp] theorem request_index : (request dest op index data tag).index = index := rfl
@[simp] theorem request_data : (request dest op index data tag).data = data := rfl
@[simp] theorem request_tag : (request dest op index data tag).tag = tag := rfl
@[simp] theorem request_reserved : (request dest op index data tag).reserved = 0 := rfl

end

/-- A request is directed exactly where its addressee is one node (R6). -/
@[simp] theorem isDirected_request (dest : Dest) (op : FrameOp) (index : Byte) (data : Word) (tag : BitVec 4) :
    (request dest op index data tag).isDirected = destDirected dest := by
  cases dest <;> rfl

/-- A request that the row's operands allow passes the Form check (R11). -/
theorem formFault_request {dest : Dest} {op : FrameOp} {index : Byte} {data : Word} (tag : BitVec 4)
    (hd : dest.wf = true) (ho : destDirected dest = true ∨ op = .write)
    (hp : op = .probe → index = 0 ∧ data = 0) : (request dest op index data tag).formFault = false := by
  cases dest <;> cases op <;> simp_all [Request.formFault, destReach, destNode, Dest.wf, destDirected]

/-- The Addressing check on a request whose addressee is not node 0 or zone 0 (R12). -/
theorem addressed_request (s : State) {dest : Dest} (hd : dest.wf = true) (op : FrameOp) (index : Byte)
    (data : Word) (tag : BitVec 4) : s.addressed (request dest op index data tag) = s.hears dest := by
  cases dest <;> simp_all [State.addressed, State.hears, destReach, destNode, Dest.wf]

/-- An addressee that the node hears is one the Form check lets through (R11, R12). -/
theorem wf_of_hears {s : State} {dest : Dest} (h : s.hears dest = true) : dest.wf = true := by
  cases dest with
  | directed id =>
    simp only [State.hears, Bool.and_eq_true, beq_iff_eq, bne_iff_ne] at h
    simp only [Dest.wf, bne_iff_ne, h.1]
    exact h.2
  | zone z =>
    simp only [State.hears, Bool.and_eq_true] at h
    exact h.1
  | broadcast => rfl

/-! ## Frames on an idle link -/

/-- The link unit of an idle link, by what is not fixed in it. -/
theorem link_of_idle {s : State} (h : s.linkIdle) :
    s.link = { s.link with
      lselHigh := true, phase := .ready, edges := 0, shift := 0, idle := 0, driving := false, ldo := none } := by
  obtain ⟨h1, h2, h3, h4, h5, h6, h7⟩ := h
  rcases s with ⟨p, ⟨a, b, c, d, e, f, g, i, j, k, l, m⟩⟩
  simp_all

/-- The edges of a whole frame arrive in a frame that has had none (R2, R17). -/
theorem receiveRest_new {s : State} (hp : s.link.phase = .shifting) (he : s.link.edges = 0) (hs : s.link.shift = 0)
    (m : Nat) (f : Frame48) :
    receiveRest m f s =
      let s1 := { s with link := { s.link with
        edges := min 49 m, shift := f >>> (48 - min 49 m), idle := if min 49 m = 0 then s.link.idle else 0 } }
      if 8 ≤ m then decideDrive (f.extractLsb' 40 8) s1 else s1 := by
  have hz : f >>> 48 = 0#48 := BitVec.eq_of_toNat_eq (by
    have := f.isLt
    simp only [BitVec.toNat_ushiftRight, Nat.shiftRight_eq_div_pow, BitVec.toNat_ofNat]
    omega)
  have h8 : 8 ≤ min 49 m ↔ 8 ≤ m := by omega
  unfold receiveRest
  simp [hp, he, hs, hz, Config.frameEdges, Config.edgeLimit, h8]

/-- The rise of LSEL in a frame with an edge (R1, R3). -/
theorem lselRise_shifting {s : State} (hp : s.link.phase = .shifting) (he : s.link.edges ≠ 0) :
    lselRise s = completeFrame (s.link.edges = 48) s.link.shift
      (closeFrame .ready { s with link := { s.link with lselHigh := true } }) := by
  unfold lselRise
  simp [hp, he, Config.frameEdges] <;> rfl

/-- A frame of `m` edges on an idle link, at least one, ends with the link idle again, the receipt built where the
node decided to drive, and its completion (R1 to R3, R9, R17). -/
theorem hostFrame_idle {s : State} (h : s.linkIdle) {m : Nat} (hm : m ≠ 0) (f : Frame48) :
    hostFrame m f s = completeFrame (m = 48) (f >>> (48 - min 49 m)) (s.sampled m f) := by
  have hl := link_of_idle h
  rcases s with ⟨pending, link, rst, regs, mc, scan, srcs, arb, svc, dl, act, jn, tc⟩
  rcases link with ⟨lsel, phase, edges, shift, idle, driving, ldo, receipt, lf, lc, prev, hold⟩
  simp only [LinkUnit.mk.injEq] at hl
  obtain ⟨rfl, rfl, rfl, rfl, rfl, rfl, rfl, -⟩ := hl
  have ht : min 49 m ≠ 0 := by omega
  have he : decide (min 49 m = 48) = decide (m = 48) := by
    by_cases h48 : m = 48
    · simp [h48]
    · simp [h48]; omega
  unfold hostFrame
  rw [receiveRest_new rfl rfl rfl]
  by_cases hd : 8 ≤ m
  · simp only [hd, if_true, State.sampled, true_and]
    rw [lselRise_shifting rfl ht]
    simp only [decideDrive, he]
    congr 1
    cases hc : ((f.extractLsb' 40 8).extractLsb' 6 2 == 0 && (f.extractLsb' 40 8).extractLsb' 0 4 == mc.nodeId
      && mc.nodeId != 0) <;>
    · simp only [State.drives, lselFall, closeFrame, if_true, hc]
      rfl
  · simp only [hd, if_false, State.sampled, false_and]
    rw [lselRise_shifting rfl ht]
    simp only [he]
    rfl

/-- The receipt is built during a request exactly where the request names this node (R17). -/
theorem sampled_request (s : State) (dest : Dest) (op : FrameOp) (index : Byte) (data : Word) (tag : BitVec 4) :
    s.sampled 48 (request dest op index data tag).frame = s.heard dest := by
  have hp := parseFrame_frame (request dest op index data tag)
  have hr : (request dest op index data tag).frame.extractLsb' 46 2 = destReach dest := congrArg Request.reach hp
  have hn : (request dest op index data tag).frame.extractLsb' 40 4 = destNode dest := congrArg Request.node hp
  have e6 : ((request dest op index data tag).frame.extractLsb' 40 8).extractLsb' 6 2 = destReach dest := by
    rw [← hr]; ext j hj
    have h8 : 6 + j < 8 := by omega
    simp [BitVec.getElem_extractLsb', h8, ← Nat.add_assoc]
  have e0 : ((request dest op index data tag).frame.extractLsb' 40 8).extractLsb' 0 4 = destNode dest := by
    rw [← hn]; ext j hj
    have h8 : j < 8 := by omega
    simp [BitVec.getElem_extractLsb', h8]
  unfold State.sampled State.heard State.drives
  rw [e6, e0]
  cases dest <;> simp [destReach, destNode, destDirected, State.hears]

/-- The completion of a frame judges the checks in their order (R8), on a request that passes Check and Form. -/
theorem completeFrame_request {s : State} {dest : Dest} {op : FrameOp} {index : Byte} {data : Word} (tag : BitVec 4)
    (hh : s.hears dest = true) (ho : destDirected dest = true ∨ op = .write)
    (hp : op = .probe → index = 0 ∧ data = 0) :
    completeFrame true (request dest op index data tag).frame s =
      let r := request dest op index data tag
      if op = .probe then admitFrame r .ident s
      else
        match targetOf r with
        | none => rejectFrame .rejectedTarget tag index s
        | some reg => admitFrame r reg s := by
  have hw := wf_of_hears hh
  unfold completeFrame
  simp [formFault_request tag hw ho hp, addressed_request s hw, hh] <;> rfl

/-- The node hears the same addressees after it has built a receipt. -/
@[simp] theorem hears_heard (s : State) (dest d : Dest) : (s.heard dest).hears d = s.hears d := by
  unfold State.heard; split <;> rfl

/-- A request that an idle node hears: it is admitted where the register's access class allows the operation, and
otherwise it is a Target rejection, on the state in which the receipt has been built (R8, R12, R13, R17). -/
theorem sendRequest_heard {s : State} {dest : Dest} {op : FrameOp} {index : Byte} {data : Word} (tag : BitVec 4)
    (hi : s.linkIdle) (hh : s.hears dest = true) (ho : destDirected dest = true ∨ op = .write)
    (hp : op = .probe → index = 0 ∧ data = 0) :
    sendRequest dest op index data tag s =
      let r := request dest op index data tag
      if op = .probe then admitFrame r .ident (s.heard dest)
      else
        match targetOf r with
        | none => rejectFrame .rejectedTarget tag index (s.heard dest)
        | some reg => admitFrame r reg (s.heard dest) := by
  unfold sendRequest
  rw [Config.frameEdges, hostFrame_idle hi (by decide), sampled_request]
  have hx : (request dest op index data tag).frame >>> (48 - min 49 48) = (request dest op index data tag).frame :=
    BitVec.ushiftRight_zero _
  rw [hx]
  exact completeFrame_request tag (by simpa using hh) ho hp

/-- The register that an accepted write reaches (R13). -/
theorem targetOf_write {dest : Dest} {index : Byte} {data : Word} {tag : BitVec 4} {reg : Reg}
    (hr : regAt index = some reg) (ha : reg.access ≠ .readOnly) :
    targetOf (request dest .write index data tag) = some reg := by
  unfold targetOf
  simp only [request_index, hr, request_op, opOf_opCode]
  cases h : reg.access <;> simp_all

/-- The register that a read reaches (R13). -/
theorem targetOf_read {dest : Dest} {index : Byte} {data : Word} {tag : BitVec 4} {reg : Reg}
    (hr : regAt index = some reg) (ha : reg.access ≠ .writeOnly) :
    targetOf (request dest .read index data tag) = some reg := by
  unfold targetOf
  simp only [request_index, hr, request_op, opOf_opCode]
  cases h : reg.access <;> simp_all

/-- The register that a hold reaches (R13). -/
theorem targetOf_hold {dest : Dest} {index : Byte} {data : Word} {tag : BitVec 4} {reg : Reg}
    (hr : regAt index = some reg) (ha : reg.access = .readWrite) :
    targetOf (request dest .hold index data tag) = some reg := by
  unfold targetOf
  simp only [request_index, hr, request_op, opOf_opCode, ha]

/-- The happening of an admitted frame, by its register execution. -/
theorem admitFrame_eq (r : Request) (reg : Reg) (s : State) :
    admitFrame r reg s =
      finish (raiseOccurrence r reg (executeRequest s r reg ((begin s).map endHold)).2
        ((executeRequest s r reg ((begin s).map endHold)).1.map
          (recordReply r (executeRequest s r reg ((begin s).map endHold)).2))) := rfl

/-- Only an accepted write of RAISE is an occurrence (R110). -/
theorem raiseOccurrence_ne {r : Request} {reg : Reg} (h : reg ≠ .raise) (reply : Reply) (w : Work) :
    raiseOccurrence r reg reply w = w := by
  unfold raiseOccurrence; simp [h]

/-! ## Every command completes -/

/-- A frame command is its request frame (R6). -/
theorem exec_of_frameOf {c : Instr} {r : Request} (h : frameOf c = some r) (s : State) :
    exec c s = .next (hostFrame 48 r.frame s) := by
  cases c <;> simp only [frameOf, Option.some.injEq, reduceCtorEq] at h <;> subst h <;> rfl

/-- Every command answers a next state: nothing faults and nothing is refused. -/
theorem exec_next (c : Instr) (s : State) : ∃ t, exec c s = .next t := by
  cases c <;> exact ⟨_, rfl⟩

/-- Every step answers a next state. -/
theorem step_next (s : State) : ∃ t, step s = .next t := by
  unfold step
  split
  · exact ⟨s, rfl⟩
  · exact exec_next _ _

end Sys2Proof.Machine
end

