-- ==== Sys2Proof/Laws/PerInstr.lean ====
section
/-! SUPPORT. Facts about the commands as syntax, one lemma for each constructor. -/

namespace Sys2Proof.Laws.FrameShape

open Sys2Proof.Machine

/-- A command that sends a request frame sends one built from an addressee, an operation, an index, a data word and a
tag; and where the command is well formed these are ones that the Form check lets through (R6, R11). -/
def Statement (i : Instr) : Prop :=
  ∀ r, frameOf i = some r → ∃ (dest : Dest) (op : FrameOp) (index : Byte) (data : Word) (tag : BitVec 4),
    r = request dest op index data tag
    ∧ (wellFormed i = true → dest.wf = true ∧ (destDirected dest = true ∨ op = .write)
        ∧ (op = .probe → index = 0 ∧ data = 0))

/-- A command that sends no request frame. -/
theorem of_none {i : Instr} (h : frameOf i = none) : Statement i := by
  intro r hr
  rw [h] at hr
  exact absurd hr (by simp)

/-- A command whose frame is a Write to an addressee that its well-formedness checks. -/
theorem of_write {i : Instr} {dest : Dest} {index : Byte} {data : Word} {tag : BitVec 4}
    (h : frameOf i = some (request dest .write index data tag)) (hw : wellFormed i = true → dest.wf = true) :
    Statement i := by
  intro r hr
  rw [h, Option.some.injEq] at hr
  exact ⟨dest, .write, index, data, tag, hr.symm, fun w => ⟨hw w, .inr rfl, by simp⟩⟩

/-- A command whose frame is directed to a node that its well-formedness checks, and is no Probe but a bare one. -/
theorem of_directed {i : Instr} {node : BitVec 4} {op : FrameOp} {index : Byte} {data : Word} {tag : BitVec 4}
    (h : frameOf i = some (request (.directed node) op index data tag)) (hw : wellFormed i = true → node ≠ 0)
    (hp : op = .probe → index = 0 ∧ data = 0) : Statement i := by
  intro r hr
  rw [h, Option.some.injEq] at hr
  exact ⟨.directed node, op, index, data, tag, hr.symm,
    fun w => ⟨by simpa [Dest.wf] using hw w, .inl rfl, hp⟩⟩

theorem powerOnReset : Statement .powerOnReset := of_none rfl
theorem pinReset : Statement .pinReset := of_none rfl
theorem hardResetRelease (ida idb : BitVec 2) : Statement (.hardResetRelease ida idb) := of_none rfl
theorem resetIntervalEnd : Statement .resetIntervalEnd := of_none rfl
theorem lselFall : Statement .lselFall := of_none rfl
theorem nullFrame : Statement .nullFrame := of_none rfl
theorem idleTimeout : Statement .idleTimeout := of_none rfl
theorem frameRejection (edges : Nat) (raw : Frame48) : Statement (.frameRejection edges raw) := of_none rfl
theorem probe (node tag : BitVec 4) : Statement (.probe node tag) :=
  of_directed rfl (fun w => bne_iff_ne.mp w) (fun _ => ⟨rfl, rfl⟩)
theorem hold (node : BitVec 4) (index : Byte) (data : Word) (tag : BitVec 4) :
    Statement (.hold node index data tag) :=
  of_directed rfl (fun w => bne_iff_ne.mp (Bool.and_eq_true_iff.mp w).1) (fun h => nomatch h)
theorem registerWrite (dest : Dest) (index : Byte) (data : Word) (tag : BitVec 4) :
    Statement (.registerWrite dest index data tag) :=
  of_write rfl (fun w => (Bool.and_eq_true_iff.mp w).1)
theorem linkfaultWrite (dest : Dest) (data : Word) (tag : BitVec 4) :
    Statement (.linkfaultWrite dest data tag) :=
  of_write rfl (fun w => w)
theorem linkcountWrite (dest : Dest) (data : Word) (tag : BitVec 4) :
    Statement (.linkcountWrite dest data tag) :=
  of_write rfl (fun w => w)
theorem mismatchdetWrite (dest : Dest) (data : Word) (tag : BitVec 4) :
    Statement (.mismatchdetWrite dest data tag) :=
  of_write rfl (fun w => w)
theorem descriptorWrite (dest : Dest) (source : BitVec 5) (word : BitVec 2) (data : Word) (tag : BitVec 4) :
    Statement (.descriptorWrite dest source word data tag) :=
  of_write rfl (fun w => (Bool.and_eq_true_iff.mp w).1)
theorem reactionSetWrite (dest : Dest) (set : BitVec 3) (wordB : Bool) (data : Word) (tag : BitVec 4) :
    Statement (.reactionSetWrite dest set wordB data tag) :=
  of_write rfl (fun w => (Bool.and_eq_true_iff.mp w).1)
theorem timeHiRead (node : BitVec 4) (data : Word) (tag : BitVec 4) : Statement (.timeHiRead node data tag) :=
  of_directed rfl (fun w => bne_iff_ne.mp w) (fun h => nomatch h)
theorem lockrecRead (node : BitVec 4) (data : Word) (tag : BitVec 4) :
    Statement (.lockrecRead node data tag) :=
  of_directed rfl (fun w => bne_iff_ne.mp w) (fun h => nomatch h)
theorem claim (node : BitVec 4) (data : Word) (tag : BitVec 4) : Statement (.claim node data tag) :=
  of_directed rfl (fun w => bne_iff_ne.mp w) (fun h => nomatch h)
theorem complete (dest : Dest) (data : Word) (tag : BitVec 4) : Statement (.complete dest data tag) :=
  of_write rfl (fun w => w)
theorem raise (dest : Dest) (data : Word) (tag : BitVec 4) : Statement (.raise dest data tag) :=
  of_write rfl (fun w => w)
theorem arm (dest : Dest) (data : Word) (tag : BitVec 4) : Statement (.arm dest data tag) :=
  of_write rfl (fun w => w)
theorem disarm (dest : Dest) (data : Word) (tag : BitVec 4) : Statement (.disarm dest data tag) :=
  of_write rfl (fun w => w)
theorem release (dest : Dest) (data : Word) (tag : BitVec 4) : Statement (.release dest data tag) :=
  of_write rfl (fun w => w)
theorem start (dest : Dest) (tag : BitVec 4) : Statement (.start dest tag) := of_write rfl (fun w => w)
theorem stop (dest : Dest) (tag : BitVec 4) : Statement (.stop dest tag) := of_write rfl (fun w => w)
theorem recover (dest : Dest) (tag : BitVec 4) : Statement (.recover dest tag) := of_write rfl (fun w => w)
theorem sealNode (dest : Dest) (tag : BitVec 4) : Statement (.sealNode dest tag) := of_write rfl (fun w => w)
theorem forceLockdown (dest : Dest) (tag : BitVec 4) : Statement (.forceLockdown dest tag) :=
  of_write rfl (fun w => w)
theorem reinit (dest : Dest) (tag : BitVec 4) : Statement (.reinit dest tag) := of_write rfl (fun w => w)
theorem journalTake (dest : Dest) (tag : BitVec 4) : Statement (.journalTake dest tag) :=
  of_write rfl (fun w => w)
theorem journalClear (dest : Dest) (tag : BitVec 4) : Statement (.journalClear dest tag) :=
  of_write rfl (fun w => w)
theorem scanTick (lines : BitVec 24) (readback : Word) : Statement (.scanTick lines readback) := of_none rfl
theorem serviceDeadlineExpiry : Statement .serviceDeadlineExpiry := of_none rfl
theorem nestedOverrun : Statement .nestedOverrun := of_none rfl
theorem claimDeadlineExpiry (source : BitVec 5) : Statement (.claimDeadlineExpiry source) := of_none rfl
theorem watchdogExpiry : Statement .watchdogExpiry := of_none rfl
theorem lckRisingEdge (ldi : Bool) : Statement (.lckRisingEdge ldi) := of_none rfl
theorem lckFallingEdge : Statement .lckFallingEdge := of_none rfl
theorem lselRise : Statement .lselRise := of_none rfl
theorem frameDropped (dest : Dest) (op : FrameOp) (index : Byte) (data : Word) (tag : BitVec 4) :
    Statement (.frameDropped dest op index data tag) := by
  intro r hr
  simp only [frameOf, Option.some.injEq] at hr
  refine ⟨dest, op, index, data, tag, hr.symm, fun w => ?_⟩
  simp only [wellFormed, Bool.and_eq_true, Bool.or_eq_true] at w
  refine ⟨w.1.1, ?_, fun ho => ?_⟩
  · rcases w.1.2 with h | h
    · left; cases dest <;> simp_all [destDirected]
    · right; exact beq_iff_eq.mp h
  · have := w.2; subst ho; simpa using this

end Sys2Proof.Laws.FrameShape
end

