-- ==== Sys2Proof/Tests/Slice0.lean ====
section
/-! SUPPORT. The model's own tests: the ill-formed commands that `wellFormed` refuses, the worked examples of the
manual, one small test or two for each command, and for each statement with hypotheses a state and operands that
meet them. -/

namespace Sys2Proof.Tests

open Machine

set_option maxRecDepth 20000

/-! ## States for the tests -/

/-- Node 3 after its reset interval: Configuring, the link idle, nothing configured. -/
def node : State :=
  { State.reset with
    link := { State.reset.link with phase := .ready, prev := { outcome := .origin, tag := 0, data := identWord 3 } }
    rst := { held := false, intervalLeft := 0, powerOnSeen := false }
    mc := { State.reset.mc with nodeId := 3 } }

/-- The node in Running. -/
def live : State := setMode .running node

/-- The node in Lockdown, entered with cause 6. -/
def locked : State :=
  { node with
    mc := { node.mc with mode := .lockdown, lockrec := 0x6000 }
    arb := { node.arb with alert := true } }

/-- A source with these words W0, W1 and W2 in this state; a Pending or Absorbed one has count 1 and this place in
the latch order. -/
def source (w0 w1 w2 : Word) (state : SrcState) (position : Nat) : Source :=
  { w0 := w0, w1 := w1, w2 := w2, state := state
    count := if state = .pending ∨ state = .absorbed then 1 else 0
    repeatCount := 0, detail := 0
    latch := if state = .pending ∨ state = .absorbed then some { position := position, tick := 0 } else none
    overrun := false, expired := false }

/-- A running node with one source in service on the stack and no deadline. -/
def serving (i : SourceId) (w0 w1 : Word) : State :=
  { live.setSrc i (source w0 w1 0 .serving 0) with
    svc := { live.svc with stack := [{ source := i, announced := true, deadline := .none }] } }

/-- A running node with one source pending and claimable. -/
def waiting (i : SourceId) (w0 w1 w2 : Word) : State :=
  let s := live.setSrc i (source w0 w1 w2 .pending 0)
  { s with arb :=
      { waiting := [{ source := i, deadline := (s.src i).freshClaimDeadline }], nextPosition := 1, alert := true } }

/-- The state after one command. -/
def after (c : Instr) (s : State) : State :=
  match exec c s with
  | .next t => t
  | .fault _ => s
  | .refused _ => s

/-- The bits of a frame of these five bytes with its CRC (R6, R7). -/
def bytes (body : BitVec 40) : Frame48 := body ++ crc8 (bytes5 body)

/-! ## Ill-formed commands -/

theorem test_wf_node_zero : wellFormed (.probe 0 5) = false := by decide
theorem test_wf_zone_zero : wellFormed (.start (.zone 0) 1) = false := by decide
theorem test_wf_directed_zero : wellFormed (.complete (.directed 0) 4 1) = false := by decide
theorem test_wf_frame_without_edges : wellFormed (.frameRejection 0 0) = false := by decide
theorem test_wf_hold_of_read_only : wellFormed (.hold 3 0x00 0 1) = false := by decide
theorem test_wf_hold_of_write_only : wellFormed (.hold 3 0x02 0 1) = false := by decide
theorem test_wf_hold_of_no_register : wellFormed (.hold 3 0x1F 0 1) = false := by decide
theorem test_wf_write_of_own_row : wellFormed (.registerWrite .broadcast 0x05 0 1) = false := by decide
theorem test_wf_write_of_read_only : wellFormed (.registerWrite .broadcast 0x22 0 1) = false := by decide
theorem test_wf_descriptor_word_three : wellFormed (.descriptorWrite .broadcast 4 3 0 1) = false := by decide
theorem test_wf_set_zero : wellFormed (.reactionSetWrite .broadcast 0 false 0 1) = false := by decide
theorem test_wf_zone_read : wellFormed (.frameDropped (.zone 2) .read 0x00 0 1) = false := by decide
theorem test_wf_probe_with_index : wellFormed (.frameDropped (.directed 3) .probe 1 0 1) = false := by decide
theorem test_wf_good_ones :
    wellFormed (.probe 3 5) && wellFormed (.start .broadcast 1) && wellFormed (.hold 3 0x0A 0 1)
      && wellFormed (.registerWrite (.zone 5) 0x08 0x030D 7) && wellFormed (.frameRejection 47 0)
      && wellFormed (.descriptorWrite (.directed 1) 4 0 0x24AA 3)
      && wellFormed (.reactionSetWrite .broadcast 7 true 0 1) = true := by decide

/-! ## Words and frames, by the manual's worked values -/

/-- Section 1.4: the CRC of the directed Probe to node 3 with tag 5 is 0x22. -/
theorem test_crc_of_probe : crc8 [0x03, 0x00, 0x00, 0x00, 0x50] = 0x22 := by decide
/-- Section 1.7: the CRC of the Origin receipt of node 3 is 0xFC. -/
theorem test_crc_of_origin_receipt : crc8 [0x00, 0x00, 0x13, 0x6E] = 0xFC := by decide
/-- Section 1.4: the whole frame of that Probe. -/
theorem test_frame_of_probe : (request (.directed 3) .probe 0 0 5).frame = 0x030000005022 := by decide
/-- Section 12.2: Q0 to Q4 of the broadcast Start with tag 6 are A0 02 00 01 60. -/
theorem test_frame_of_start :
    (request .broadcast .write 0x02 1 6).frame.extractLsb' 8 40 = 0xA002000160 := by decide
/-- Section 12.6: Q0 to Q4 of the zone 5 write of POLICY are 65 08 03 0D 70. -/
theorem test_frame_of_zone_write :
    (request (.zone 5) .write 0x08 0x030D 7).frame.extractLsb' 8 40 = 0x6508030D70 := by decide
/-- Section 12.2: W0 of source 4 stands at index 0x50; the last descriptor word, W3 of source 31, at 0xBF. -/
theorem test_descriptor_index : descIndex 4 0 = 0x50 ∧ descIndex 31 3 = 0xBF := by decide
/-- Section 11: reaction set 1 word A stands at 0xC0, set 7 word B at 0xCD. -/
theorem test_reaction_index : reactIndex 1 false = 0xC0 ∧ reactIndex 7 true = 0xCD := by decide
/-- The map has no register at 0x1F, 0x2B, 0x36, 0x3A and 0xCE, and one on either side of each gap. -/
theorem test_register_gaps :
    ([0x1F, 0x2B, 0x36, 0x3A, 0xCE, 0xFF] : List Byte).all (fun n => regAt n == none) = true
    ∧ ([0x1E, 0x20, 0x2A, 0x30, 0x35, 0x38, 0x39, 0x40, 0xBF, 0xC0, 0xCD] : List Byte).all
        (fun n => regAt n != none) = true := by decide
/-- Section 1.7: the receipt of node 3 after power-on reset is 00 00 13 6E FC. -/
theorem test_origin_receipt : node.receiptWord = 0x0000136EFC := by decide
/-- Section 12.3: the claim words of sources 4 and 17. -/
theorem test_claim_words :
    (waiting 4 0x24AA 0 0).claimWord 4 = 0x2424 ∧ (waiting 17 0x5132 0 0).claimWord 17 = 0x5151 := by decide
/-- Section 12.4: the claim word of COMPOUND. -/
theorem test_claim_word_of_compound : node.claimWord compoundId = 0xFC7C := by decide
/-- Chapter 10: word 0 of the Latch record of source 6, a Fault, in Running is 0x1328. -/
theorem test_latch_record : ((waiting 6 0x064A 0x20 0).record .latch (some 6) 0).w0 = 0x1328 := by decide
/-- Section 3.5 and R58: W3 of OVERRUN after a hard reset, Quiet and armed. -/
theorem test_reset_w3 : readReg State.reset (.desc 25 3) = 0x2008 := by decide
/-- R153: JFILTER after a hard reset has the six filterable kinds. -/
theorem test_reset_policy : readReg State.reset .policy = 0x0301 ∧ readReg State.reset .jfilter = 0x038E := by
  decide
/-- No word spells a command: the table gives no row any bits. -/
theorem test_no_words : decodeTableWord 16 0 = none ∧ State.reset.withFetchWord 16 0 = State.reset :=
  ⟨rfl, rfl⟩

/-! ## Resets -/

theorem test_power_on_reset :
    let t := after .powerOnReset (setMode .running locked)
    t.rst.held = true ∧ t.link.phase = .barred ∧ t.mc.mode = .configuring ∧ t.arb.alert = false := by decide
/-- R53: a pin reset within the interval of a power-on reset still reports power-on. -/
theorem test_pin_reset_keeps_power_on :
    (after (.hardResetRelease 3 0) (after .pinReset { node with rst := ⟨false, 4, true⟩ })).mc.resetCause = .powerOn
    ∧ (after (.hardResetRelease 3 0) (after .pinReset node)).mc.resetCause = .pin := by decide
/-- R49: straps IDB 0, IDA 3 give node 3; IDENT reads 0x136E and the Origin record shows it. -/
theorem test_release_latches_id :
    let t := after (.hardResetRelease 3 0) State.reset
    readReg t .ident = 0x136E ∧ t.link.prev = { outcome := .origin, tag := 0, data := 0x136E }
      ∧ t.rst.intervalLeft = 10 := by decide
/-- R49: straps IDB 2, IDA 1 give node 9. -/
theorem test_release_weighs_straps : (after (.hardResetRelease 1 2) State.reset).mc.nodeId = 9 := by decide
theorem test_interval_end :
    (after .resetIntervalEnd { State.reset with rst := ⟨false, 1, true⟩ }).link.phase = .ready := by decide

/-! ## The link -/

theorem test_lsel_fall : (after .lselFall node).link.phase = .shifting := by decide
/-- R52: after the interval a Barred link waits for the rise of LSEL. -/
theorem test_lsel_rise_ends_barred :
    (after .lselRise { node with link := { node.link with phase := .barred, lselHigh := false } }).link.phase
      = .ready := by decide
/-- R3 and R9: LSEL rises after 3 edges, a Length fault with LINKCOUNT 1 in the upper byte. -/
theorem test_lsel_rise_short_frame :
    (after .lselRise { node with link := { node.link with phase := .shifting, lselHigh := false, edges := 3 } }).link.prev
      = { outcome := .rejectedLength, tag := 0, data := 0x0100 } := by decide
/-- R17: at the 8th edge of Q0 = 0x03 node 3 drives. -/
theorem test_eighth_edge_drives :
    let t := after (.lckRisingEdge true)
      { node with link := { node.link with phase := .shifting, lselHigh := false, edges := 7, shift := 1 } }
    t.link.driving = true ∧ t.link.receipt = 0x0000136EFC := by decide
/-- R18: after the 16th edge the first bit of P1 is presented; for an outcome of 8 it is 1. -/
theorem test_falling_edge_presents :
    (after .lckFallingEdge
      { node with link := { node.link with
        phase := .shifting, lselHigh := false, edges := 16, driving := true, receipt := 0x0080000000 } }).link.ldo
      = some true := by decide
theorem test_null_frame : after .nullFrame node = node := by decide
theorem test_idle_timeout :
    let t := after .idleTimeout { node with link := { node.link with phase := .shifting, lselHigh := false, edges := 48 } }
    t.link.phase = .spent ∧ t.link.prev.outcome = .rejectedLength := by decide
/-- R10 and R16: a frame whose last bit is wrong is a Check fault; it records the tag and index as received. -/
theorem test_rejection_check :
    (after (.frameRejection 48 0x033800005A00) node).link.prev
      = { outcome := .rejectedCheck, tag := 5, data := 0x0138 } := by decide
/-- R11: a broadcast Read is a Form fault. -/
theorem test_rejection_form :
    (after (.frameRejection 48 (bytes 0x9038000050)) node).link.prev.outcome = .rejectedForm := by decide
/-- R13: a Read of the write-only ACTION is a Target fault; the flag is LINKFAULT bit 3. -/
theorem test_frame_dropped_target :
    let t := after (.frameDropped (.directed 3) .read 0x02 0 6) node
    t.link.prev = { outcome := .rejectedTarget, tag := 6, data := 0x0102 } ∧ t.link.linkFault = 8 := by decide
/-- R12: a frame to another node leaves no trace. -/
theorem test_frame_dropped_other_node :
    after (.frameDropped (.directed 2) .write 0x07 0x0020 6) node = node := by decide

/-! ## Registers -/

theorem test_probe : (after (.probe 3 5) node).link.prev = { outcome := .done, tag := 5, data := 0 } := by decide
theorem test_hold : (after (.hold 3 0x0A 0 1) node).link.hold = some { index := 0x0A, changed := false } := by
  decide
/-- Section 12.5, frame 2: a write under a broken hold leaves MASK_LO at 0x0008 and reports it. -/
theorem test_hold_broken :
    let s := { live with
      srcs := { live.srcs with mask := 8 }
      link := { live.link with hold := some { index := 0x0A, changed := true } } }
    let t := after (.registerWrite (.directed 3) 0x0A 0x0200 2) s
    t.link.prev = { outcome := .holdBroken, tag := 2, data := 0x0008 } ∧ readReg t .maskLo = 8 := by decide
theorem test_register_write :
    (after (.registerWrite .broadcast 0x21 0x00F0 2) node).act.effective = 0x00F0 := by decide
/-- Section 12.6: a sealed node refuses the zone write of POLICY with REFUSAL 0x0208. -/
theorem test_sealed_refusal :
    let s := { live with regs := { live.regs with zones := 0x0020, sealed := true } }
    (after (.registerWrite (.zone 5) 0x08 0x030D 7) s).link.prev
      = { outcome := .refused, tag := 7, data := 0x0208 } := by decide
theorem test_linkfault_write :
    (after (.linkfaultWrite .broadcast 0x0006 1) { node with link := { node.link with linkFault := 0xF } }).link.linkFault
      = 9 := by decide
theorem test_linkcount_write :
    (after (.linkcountWrite .broadcast 0xFFFF 1) { node with link := { node.link with linkCount := 7 } }).link.linkCount
      = 0 := by decide
theorem test_mismatchdet_write :
    (after (.mismatchdetWrite .broadcast 0x00F0 1) { node with act := { node.act with mismatchDet := 0x0FF0 } }).link.prev.data
      = 0x0F00 := by decide
/-- Section 12.2, frame 5: W0 of source 4 reports 0x24AA. -/
theorem test_descriptor_write :
    let t := after (.descriptorWrite (.directed 3) 4 0 0x24AA 3) node
    (t.src 4).w0 = 0x24AA ∧ t.link.prev = { outcome := .done, tag := 3, data := 0x24AA } := by decide
/-- R67: W1 of COMPOUND with set 3 stores react-when AtLatch. -/
theorem test_compound_w1 : ((after (.descriptorWrite (.directed 3) 28 1 0x0600 3) node).src 28).w1 = 0x0680 := by
  decide
theorem test_reaction_set_write :
    ((after (.reactionSetWrite .broadcast 7 true 0x0009 1) node).set 6).wordB = 0x0009 := by decide
/-- R139: the channel code 3 is refused as Field. -/
theorem test_reaction_set_field :
    (after (.reactionSetWrite (.directed 3) 1 false 0x000C 1) node).link.prev.data = 0x03C0 := by decide
/-- R26: TIME_HI returns the upper half and captures both. -/
theorem test_time_hi_read :
    let t := after (.timeHiRead 3 0 1) { node with tc := { node.tc with count := 0x00051234 } }
    t.link.prev.data = 5 ∧ readReg t .timeLo = 0x1234 := by decide
theorem test_lockrec_read :
    let t := after (.lockrecRead 3 0 1) locked
    t.link.prev.data = 0x6000 ∧ t.mc.causeSeen = true := by decide
/-- Section 12.2, frame 6: source 4 passes Arm validation. -/
theorem test_arm :
    ((after (.arm (.directed 3) 4 4) (node.setSrc 4 (source 0x24AA 0 0 .disarmed 0))).src 4).state = .quiet := by
  decide
/-- R71: an external vector of 0 fails check 1. -/
theorem test_arm_invalid :
    let t := after (.arm (.directed 3) 4 4) node
    readReg t .armcheck = 1 ∧ readReg t .refusal = 0x050C := by decide
theorem test_disarm :
    ((after (.disarm (.directed 3) 4 4) (node.setSrc 4 (source 0x24AA 0 0 .quiet 0))).src 4).state = .disarmed
    ∧ (after (.disarm (.directed 3) 28 4) node).link.prev.data = 0x0F0D := by decide
/-- R145: the freezes of the released set go, and the operate level drives again. -/
theorem test_release :
    let s := { live.putSet 0 { wordA := 0x0001, wordB := 0, binding := some [7] } with
      act := { (live.putSet 0 { wordA := 0x0001, wordB := 0, binding := some [7] }).act with
        operate := 1, frozen := 1 } }
    let t := after (.release (.directed 3) 1 1) s
    readReg t .active = 0 ∧ t.act.frozen = 0 ∧ t.act.effective = 1 := by decide

/-! ## Events -/

/-- Section 12.3, frame 1: source 4 is claimed; the next receipt shows 0x2424 and depth 1. -/
theorem test_claim :
    let t := after (.claim 3 0 1) (waiting 4 0x24AA 0 0)
    t.link.prev = { outcome := .done, tag := 1, data := 0x2424 } ∧ t.svc.stack.map (·.source) = [4]
      ∧ (t.src 4).state = .serving := by decide
theorem test_claim_empty : (after (.claim 3 0 1) live).link.prev.outcome = .empty := by decide
/-- Section 12.3, frame 3: a Complete that does not name the top is refused with 0x0711. -/
theorem test_complete_not_top : (after (.complete .broadcast 4 3) (serving 17 0x5132 0)).link.prev.data = 0x0711 := by
  decide
theorem test_complete :
    let t := after (.complete .broadcast 17 4) (serving 17 0x5132 0)
    t.svc.stack = [] ∧ (t.src 17).state = .quiet := by decide
theorem test_raise :
    let t := after (.raise .broadcast 0xBEEF 1) (live.setSrc 30 (source 0xFE00 0 0 .quiet 0))
    (t.src 30).state = .pending ∧ (t.src 30).detail = 0xBEEF ∧ t.arb.alert = true := by decide
/-- R114: a Fault raised over a Fault is a compound condition; COMPREC0 names 4 and 30. -/
theorem test_raise_compound :
    let t := after (.raise .broadcast 1 1) ((serving 4 0x24AA 0).setSrc 30 (source 0xFE08 0 0 .quiet 0))
    readReg t .comprec0 = 0x041E ∧ t.svc.stack.map (·.source) = [28, 4] ∧ (t.src 30).state = .absorbed := by decide

/-! ## Actions -/

/-- R45: Start writes the Mode record from Configuring to Running. -/
theorem test_start :
    let t := after (.start .broadcast 6) node
    t.mc.mode = .running ∧ t.jn.unread.map (fun r => (r.w0, r.w1)) = [(0x9008, 0x0001)] := by decide
theorem test_stop : (after (.stop .broadcast 1) live).mc.mode = .configuring := by decide
/-- R28: Stop outside Running is refused as Mode. -/
theorem test_stop_refused : (after (.stop .broadcast 1) node).link.prev.data = 0x0102 := by decide
/-- Section 12.7, frame 2: Recover before LOCKREC is read is refused with 0x0B02. -/
theorem test_recover_unseen : (after (.recover (.directed 3) 2) locked).link.prev.data = 0x0B02 := by decide
theorem test_recover :
    let t := after (.recover (.directed 3) 2) { locked with mc := { locked.mc with causeSeen := true } }
    t.mc.mode = .configuring ∧ t.mc.lockrec = 0x6000 ∧ t.arb.alert = false := by decide
theorem test_seal : (after (.sealNode (.directed 3) 2) live).regs.sealed = true := by decide
/-- R44: cause 6, no source; the Mode record's detail word is 0x0102. -/
theorem test_force_lockdown :
    let t := after (.forceLockdown .broadcast 1) live
    t.mc.lockrec = 0x6000 ∧ t.arb.alert = true
      ∧ t.jn.unread.map (fun r => (r.w0, r.w1)) = [(0x6010, 0x0006), (0x9010, 0x0102)] := by decide
theorem test_reinit :
    let t := after (.reinit .broadcast 1) { locked with mc := { locked.mc with causeSeen := true } }
    t.mc.resetCause = .reinit ∧ t.mc.lockrec = 0 ∧ t.jn.unread.map (·.w1) = [0x0200] := by decide
theorem test_journal_take :
    let t := after (.journalTake .broadcast 1) { node with jn := { node.jn with unread := [⟨1, 2, 3, 4⟩, ⟨5, 6, 7, 8⟩] } }
    t.jn.window = ⟨1, 2, 3, 4⟩ ∧ t.jn.unread = [⟨5, 6, 7, 8⟩] := by decide
theorem test_journal_clear :
    readReg (after (.journalClear .broadcast 1)
      { node with jn := { node.jn with unread := [⟨1, 2, 3, 4⟩], lost := 9 } }) .jstat = 0 := by decide

/-! ## Ticks and expiries -/

/-- R63 to R65: a rising line latches its Rising source with the level in the detail word. -/
theorem test_tick_rising :
    let s := { live.setSrc 4 (source 0x24AA 0 0 .quiet 0) with scan := { live.scan with started := true } }
    let t := after (.scanTick 0x10 0) s
    (t.src 4).state = .pending ∧ (t.src 4).detail = 1 ∧ t.arb.alert = true ∧ t.tc.count = 1 := by decide
/-- R61: the first tick after a hard reset sets the filtered levels, and is no change. -/
theorem test_first_tick :
    let t := after (.scanTick 0x10 0) (live.setSrc 4 (source 0x24AA 0 0 .quiet 0))
    (t.src 4).state = .quiet ∧ t.scan.filtered = 0x10 := by decide
/-- R133: the overrun mark of a Notice top, and an OVERRUN that names source 6. -/
theorem test_service_deadline_expiry :
    let s := { serving 6 0x0642 0 with
      svc := { live.svc with stack := [{ source := 6, announced := true, deadline := .runningDown 1 }] } }
    let t := after .serviceDeadlineExpiry s
    (t.src 6).overrun = true ∧ (t.src 25).state = .pending ∧ (t.src 25).detail = 6 := by decide
/-- Section 8: the nested overrun of COMPOUND over source 6 reads LOCKREC 0x5386. -/
theorem test_nested_overrun :
    let s := { serving 6 0x064A 0 with
      svc := { live.svc with stack :=
        [{ source := 28, announced := true, deadline := .runningDown 1 },
         { source := 6, announced := true, deadline := .spent }] } }
    (after .nestedOverrun s).mc.lockrec = 0x5386 := by decide
/-- R129: the entry stays Pending with its claim-deadline-expired mark set. -/
theorem test_claim_deadline_expiry :
    let t := after (.claimDeadlineExpiry 10) (waiting 10 0x0A6A 0 0x0200)
    (t.src 10).expired = true ∧ (t.src 10).state = .pending
      ∧ t.arb.waiting = [{ source := 10, deadline := .spent }] := by decide
/-- Section 12.7: SILENCE over source 17 in service reads LOCKREC 0x13F1. -/
theorem test_watchdog_expiry :
    let s := { (serving 17 0x5132 0).setSrc 31 (source 0xFF10 0 0 .quiet 0) with dl := { watchdog := some 1 } }
    (after .watchdogExpiry s).mc.lockrec = 0x13F1 := by decide

/-! ## Invariants of the test states -/

/-- The invariants of a state, each in a form that evaluates. -/
def legalCheck (s : State) : Bool :=
  decide (s.svc.stack.length ≤ Config.stackLimit ∧ s.jn.unread.length ≤ Config.journalLimit
    ∧ (s.src overrunId).armed = true ∧ (s.src compoundId).armed = true
    ∧ s.act.effective = s.effectiveWord ∧ s.arb.alert = s.alertCondition)
  && decide (s.regs.zones.getLsbD 0 = false
    ∧ (s.regs.policy.extractLsb' 5 3 = 0 ∧ s.regs.policy.extractLsb' 12 4 = 0)
    ∧ s.regs.policy.extractLsb' 8 4 ≠ 0 ∧ s.regs.silwin.extractLsb' 8 8 = 0 ∧ s.jn.filter &&& ~~~filterBits = 0
    ∧ (∀ i : SourceId, (s.src i).w1.extractLsb' 0 4 = 0)
    ∧ (∀ i : SourceId, isExternal i = false → keepsFixed i (s.src i).w0 = true)
    ∧ (∀ k : SetId, hasIllegalField (s.set k).wordA = false ∧ hasIllegalField (s.set k).wordB = false)
    ∧ (s.src compoundId).w1.extractLsb' 7 2 =
        (if (s.src compoundId).w1.extractLsb' 9 3 = 0 then 0#2 else 1#2))
  && decide (s.link.phase = .ready ∧ (s.link.phase = .ready ∧ s.link.lselHigh = true ∧ s.link.edges = 0
      ∧ s.link.shift = 0 ∧ s.link.idle = 0 ∧ s.link.driving = false ∧ s.link.ldo = none)
    ∧ s.rst.held = false ∧ s.rst.intervalLeft = 0)
  && decide ((∀ c : Channel, s.act.frozen.getLsbD c.val = s.someActive c .freeze)
    ∧ s.act.frozenLevel &&& ~~~s.act.frozen = 0)
  && decide (∀ i : SourceId, (s.src i).armed = true → armFault i (s.src i) = none)
  && decide ((s.mc.mode = .configuring → s.arb.waiting = [] ∧ s.svc.stack = [] ∧ ∀ i : SourceId, s.busy i = false)
    ∧ (∀ i : SourceId, (s.src i).state = .pending ↔ i ∈ s.arb.waiting.map (·.source))
    ∧ (s.arb.waiting.Pairwise fun a b => a.source ≠ b.source ∧ s.standsBefore a.source b.source = true)
    ∧ (∀ i : SourceId, (s.src i).state = .serving ↔ i ∈ s.svc.stack.map (·.source))
    ∧ (s.svc.stack.Pairwise fun a b => s.pairAbove a.source b.source = true)
    ∧ (∀ e ∈ s.svc.stack, e.source ≠ compoundId → e.announced = true)
    ∧ (s.src compoundId).repeatCount = 0
    ∧ ((s.src compoundId).state = .quiet ∨ (s.src compoundId).state = .serving))
  && decide ((∀ i : SourceId, (s.src i).latch.isSome = true ↔
        (s.src i).state = .pending ∨ (s.src i).state = .absorbed)
    ∧ (∀ i : SourceId, ∀ l ∈ (s.src i).latch, l.position < s.arb.nextPosition)
    ∧ (∀ i : SourceId, ∀ l ∈ (s.src i).latch, ∀ j : SourceId, i ≠ j → ∀ m ∈ (s.src j).latch, l.position ≠ m.position)
    ∧ (∀ i : SourceId, (s.src i).count ≠ 0 ↔ (s.src i).state = .pending ∨ (s.src i).state = .absorbed)
    ∧ (∀ i : SourceId, (s.src i).repeatCount ≠ 0 → (s.src i).state = .serving)
    ∧ (s.mc.mode = .running → ∀ i : SourceId, (s.src i).state = .absorbed ↔
        compoundId ∈ s.svc.stack.map (·.source) ∧ i = sourceOf (s.svc.comprec0.extractLsb' 0 5)))

/-- A state whose check answers true, with its link idle, has all the invariants. -/
theorem legal_of_check {s : State} (h : legalCheck s = true) : s.Legal := by
  simp only [legalCheck, Bool.and_eq_true, decide_eq_true_eq] at h
  obtain ⟨⟨⟨⟨⟨⟨⟨a1, a2, a3, a4, a5, a6⟩, f1, f2, f3, f4, f5, f6, f7, f8, f9⟩, l1, l2, l3, l4⟩, z1, z2⟩, v⟩,
    e1, e2, e3, e4, e5, e6, ec, e7⟩, e8, e9, e10, e11, e12, e13⟩ := h
  have hl : s.linkIdle := l2
  exact
    { atRest := ⟨a1, a2, a3, a4, a5, a6⟩
      fields := ⟨f1, f2, f3, f4, f5, f6, f7, f8, f9⟩
      link :=
        { ready := fun _ => hl
          released := fun _ => ⟨l2.2.2.2.2.2.1, l2.2.2.2.2.2.2⟩
          shifting := fun h => by rw [l1] at h; exact absurd h (by decide)
          barred := fun h => by rcases h with h | h <;> simp_all
          edges := by rw [l2.2.2.1]; decide
          idle := by rw [l2.2.2.2.2.1]; decide }
      freezes := ⟨z1, z2⟩
      armed := v
      events := ⟨e1, e2, e3, e4, e5, e6, ec, e7, e8, e9, fun i j n l m hi hj => e10 i l hi j n m hj, e11, e12, e13⟩ }

/-- The conditions of a counting tick of a state with these lines, in a form that evaluates. -/
def countingCheck (lines : BitVec 24) (readback : Word) (s : State) : Bool :=
  legalCheck s && decide (s.rst.held = false ∧ s.rst.intervalLeft = 0 ∧ s.link.phase ≠ .shifting
    ∧ s.mc.mode = .running
    ∧ (∀ k : LineId, (sampleInputs lines readback s).lineOccurs (s.changedLines lines) k = false)
    ∧ (sampleInputs lines readback s).joining = 0)

theorem counting_of_check {lines : BitVec 24} {readback : Word} {s : State}
    (h : countingCheck lines readback s = true) : s.CountingTick lines readback := by
  simp only [countingCheck, Bool.and_eq_true, decide_eq_true_eq] at h
  obtain ⟨hl, h1, h2, h3, h4, h5, h6⟩ := h
  exact ⟨legal_of_check hl, h1, h2, h3, h4, h5, h6⟩

theorem legal_node : node.Legal := legal_of_check (by decide)
theorem legal_live : live.Legal := legal_of_check (by decide)

/-! ## States that meet the statements' hypotheses: resets and the link -/

/-- The node in the middle of a frame, after so many edges of these bits. -/
def inFrame (edges : Nat) (shift : Frame48) (driving : Bool) : State :=
  { node with link := { node.link with
      phase := .shifting, lselHigh := false, edges := edges, shift := shift, driving := driving } }

/-- The node with its link Spent. -/
def spent : State := { node with link := { node.link with phase := .spent, lselHigh := false } }

/-- The node with its link Barred after the reset interval, LSEL still low. -/
def barred : State := { node with link := { node.link with phase := .barred, lselHigh := false } }

theorem witness_HardResetLeavesTableValues :
    isHardReset .powerOnReset = true ∧ isHardReset .pinReset = true := by decide

theorem witness_ReleaseLatchesIdentityAndCause : State.reset.rst.held = true ∧ node.rst.held = false := by decide

theorem witness_ResetIntervalLastsTenTicks :
    let last := { State.reset with rst := ⟨false, 1, true⟩ }
    isHardReset .pinReset = true ∧ (List.replicate 10 ((0 : BitVec 24), (0 : Word))).length ≤ 10
    ∧ (last.rst.held = false ∧ last.rst.intervalLeft ≠ 0)
    ∧ (node.rst.held = true ∨ node.rst.intervalLeft = 0) := by decide

theorem witness_LselMovesTheLink :
    node.link.phase = .ready ∧ spent.link.phase = .spent
    ∧ ((inFrame 0 0 false).link.phase = .shifting ∧ (inFrame 0 0 false).link.edges = 0)
    ∧ (barred.link.phase = .barred ∧ barred.rst.held = false ∧ barred.rst.intervalLeft = 0)
    ∧ (State.reset.link.phase = .barred ∧ State.reset.rst.held = true) := by decide

theorem witness_ClockEdgesShiftAndPresent :
    node.link.phase ≠ .shifting
    ∧ ((inFrame 49 0 false).link.phase = .shifting ∧ (inFrame 49 0 false).link.edges ≠ 7)
    ∧ ((inFrame 7 1 false).link.phase = .shifting ∧ (inFrame 7 1 false).link.edges = 7)
    ∧ (inFrame 8 3 false).link.driving = false
    ∧ ((inFrame 48 3 true).link.phase = .shifting ∧ (inFrame 48 3 true).link.driving = true) := by decide

theorem witness_HostReadsTheReceipt :
    node.linkIdle ∧ node.drives ((0x030000005022 : Frame48).extractLsb' 40 8) = true ∧ 39 < 40 ∧ 7 < 8
    ∧ node.drives ((0x020000005000 : Frame48).extractLsb' 40 8) = false := by
  unfold State.linkIdle; decide

theorem witness_ReceiptLayout : live.AtRest := legal_live.atRest

theorem witness_NullFrameChangesNothing : node.linkIdle := by unfold State.linkIdle; decide

theorem witness_IdleTimeoutEndsTheFrame :
    let s := inFrame 3 0 false
    let t := { s with link := { s.link with idle := 19 } }
    (s.link.phase = .shifting ∧ s.linkQuiet) ∧ node.link.phase ≠ .shifting
    ∧ (s.rst.held = false ∧ s.rst.intervalLeft = 0 ∧ s.link.idle < 19)
    ∧ (t.link.phase = .shifting ∧ t.rst.held = false ∧ t.rst.intervalLeft = 0 ∧ t.link.idle = 19) := by
  unfold State.linkQuiet; decide

/-- One witness for each clause: 47 and 49 edges, a wrong CRC, a broadcast Read, a Read of ACTION; and the Target check
at the limits of the gaps of the map, for a Write. -/
theorem witness_RejectionsAreRecorded :
    node.linkIdle ∧ node.linkQuiet
    ∧ ((47 ≠ 0 ∧ 47 ≠ 48) ∧ 49 ≠ 48)
    ∧ crc8 (bytes5 ((0x030000005023 : Frame48).extractLsb' 8 40)) ≠ (0x030000005023 : Frame48).extractLsb' 0 8
    ∧ (let f := bytes 0x9038000050
       crc8 (bytes5 (f.extractLsb' 8 40)) = f.extractLsb' 0 8 ∧ (parseFrame f).formFault = true)
    ∧ (let f := bytes 0x1302000050
       crc8 (bytes5 (f.extractLsb' 8 40)) = f.extractLsb' 0 8 ∧ (parseFrame f).formFault = false
       ∧ node.addressed (parseFrame f) = true ∧ (parseFrame f).op ≠ 0 ∧ targetOf (parseFrame f) = none)
    ∧ ([0x1F, 0x2B, 0x2F, 0x36, 0x37, 0x3A, 0x3F, 0x43, 0xBF, 0xCE, 0xFF].all fun n =>
        targetOf { parseFrame (bytes 0x2300000050) with index := n } == none) = true
    ∧ ([0x20, 0x35, 0x40, 0xBE, 0xC0, 0xCD, 0x26].all fun n =>
        targetOf { parseFrame (bytes 0x2300000050) with index := n } != none) = true := by
  unfold State.linkIdle State.linkQuiet; decide

/-- The running node with LINK Quiet. -/
def linkArmed : State := live.setSrc linkId (source 0xF800 0 0 .quiet 0)

/-- The running node with LINK Quiet, Pending, and Serving with repeat 0 and 1; and a frame for each check. -/
theorem witness_RejectionRaisesLink :
    (linkArmed.Legal ∧ linkArmed.linkIdle ∧ linkArmed.mc.mode = .running ∧ (linkArmed.src linkId).state = .quiet)
    ∧ ((waiting linkId 0xF800 0 0).Legal ∧ (waiting linkId 0xF800 0 0).linkIdle
      ∧ (waiting linkId 0xF800 0 0).mc.mode = .running
      ∧ ((waiting linkId 0xF800 0 0).src linkId).state = .pending)
    ∧ ((serving linkId 0xF800 0).Legal ∧ (serving linkId 0xF800 0x40).Legal
      ∧ ((serving linkId 0xF800 0).src linkId).state = .serving
      ∧ ((serving linkId 0xF800 0x40).src linkId).w1.getLsbD 6 = true)
    ∧ (47 ≠ 0 ∧ 47 ≠ 48)
    ∧ crc8 (bytes5 ((0x030000005023 : Frame48).extractLsb' 8 40)) ≠ (0x030000005023 : Frame48).extractLsb' 0 8
    ∧ (let f := bytes 0x9038000050
       crc8 (bytes5 (f.extractLsb' 8 40)) = f.extractLsb' 0 8 ∧ (parseFrame f).formFault = true)
    ∧ (let f := bytes 0x1302000050
       crc8 (bytes5 (f.extractLsb' 8 40)) = f.extractLsb' 0 8 ∧ (parseFrame f).formFault = false
       ∧ live.addressed (parseFrame f) = true ∧ (parseFrame f).op ≠ 0 ∧ targetOf (parseFrame f) = none) :=
  ⟨⟨legal_of_check (by decide), by unfold State.linkIdle; decide, by decide, by decide⟩,
    ⟨legal_of_check (by decide), by unfold State.linkIdle; decide, by decide, by decide⟩,
    ⟨legal_of_check (by decide), legal_of_check (by decide), by decide, by decide⟩,
    by decide, by decide, by decide, by decide⟩

/-- Both sides of the Addressing check, for each reach. -/
theorem witness_UnaddressedFramesLeaveNoTrace :
    node.linkIdle
    ∧ wellFormed (.frameDropped (.directed 2) .read 0 0 1) = true ∧ (2 : BitVec 4) ≠ node.mc.nodeId
    ∧ wellFormed (.frameDropped (.zone 15) .write 7 0 1) = true ∧ node.regs.zones.getLsbD 15 = false
    ∧ wellFormed (.frameDropped (.directed 3) .probe 0 0 1) = true ∧ (3 : BitVec 4) = node.mc.nodeId
    ∧ (let s := { node with regs := { node.regs with zones := 0x8000 } }
       s.linkIdle ∧ s.regs.zones.getLsbD 15 = true)
    ∧ wellFormed (.frameDropped .broadcast .write 7 0 1) = true := by
  unfold State.linkIdle; decide

theorem witness_BarredLinkIgnoresFrames :
    State.reset.link.phase = .barred ∧ (State.reset.rst.held = true ∨ State.reset.rst.intervalLeft ≠ 0)
    ∧ frameOf (.start .broadcast 1) = some (request .broadcast .write 0x02 1 1) := by decide

theorem witness_FrameCommandsAreTheirWireEvents :
    node.linkIdle ∧ frameOf (.claim 3 0 1) = some (request (.directed 3) .read 0x10 0 1) := by
  unfold State.linkIdle; decide

theorem witness_FramesCarryTheirFields :
    frameOf (.probe 15 15) = some (request (.directed 15) .probe 0 0 15) ∧ wellFormed (.probe 15 15) = true := by
  decide

/-! ## Register access -/

theorem witness_ProbeOnlyRecordsAndFeeds : live.AtRest ∧ live.linkIdle ∧ live.mc.nodeId ≠ 0 :=
  ⟨legal_live.atRest, by unfold State.linkIdle; decide, by decide⟩

/-- A hold of MASK_LO that hardware has broken, or has not. -/
def held (changed : Bool) : State :=
  { live with link := { live.link with hold := some { index := 0x0A, changed := changed } } }

theorem witness_HoldGuardsTheNextWrite :
    (live.linkIdle ∧ live.mc.nodeId ≠ 0 ∧ regAt 0xCD = some (.react 6 true) ∧ holdable (.react 6 true) = true)
    ∧ ((held true).linkIdle ∧ (held true).mc.nodeId ≠ 0
      ∧ frameOf (.registerWrite (.directed 3) 0x0A 2 1)
          = some (request (.directed (held true).mc.nodeId) .write 0x0A 2 1)
      ∧ regAt 0x0A = some .maskLo ∧ Reg.maskLo.access = .readWrite
      ∧ (held true).link.hold = some { index := 0x0A, changed := true })
    ∧ ((held false).linkIdle ∧ (held false).mc.nodeId ≠ 0
      ∧ (held false).link.hold = some { index := 0x0A, changed := false } ∧ (held false).link.phase ≠ .shifting) := by
  unfold State.linkIdle; decide

/-- R35, R74: a source that masks itself at its latch breaks a hold on MASK_LO, and none where its bit was 1. -/
theorem test_self_mask_breaks_hold :
    let s : State := { (held false).setSrc 4 (source 0x2402 0x0010 0 .quiet 0) with
      scan := { live.scan with started := true } }
    (after (.scanTick 0x10 0) s).link.hold = some { index := 0x0A, changed := true }
    ∧ (after (.scanTick 0x10 0) { s with srcs := { s.srcs with mask := 0x10 } }).link.hold
        = some { index := 0x0A, changed := false } := by decide

/-- A refusal as Mode, an invalid descriptor, a Read of CLAIM in Lockdown, a sealed write; and a write that the
register's own checks decide. -/
theorem witness_RefusalsOnlyLeaveTheirReason :
    (node.linkIdle ∧ node.hears .broadcast = true
      ∧ frameOf (.stop .broadcast 1) = some (request .broadcast .write 0x02 2 1)
      ∧ regAt 0x02 = some .action ∧ Reg.action.access ≠ .readOnly ∧ node.brokenFor .broadcast 0x02 = false
      ∧ writeRefusal node .action 2 = some .mode)
    ∧ (writeRefusal node .arm 4 = some (.invalidDescriptor 1)
      ∧ frameOf (.arm .broadcast 4 1) = some (request .broadcast .write 0x0C 4 1) ∧ regAt 0x0C = some .arm)
    ∧ (locked.linkIdle ∧ locked.mc.nodeId ≠ 0 ∧ locked.mc.mode = .lockdown)
    ∧ writeRefusal { node with regs := { node.regs with sealed := true } } .zones 0 = some .sealed
    ∧ (Reg.complete.access ≠ .readOnly ∧ writeRefusal live .complete 4 = some .stackEmpty)
    ∧ (Reg.access (.desc 28 2) ≠ .readOnly ∧ writeRefusal node (.desc 28 2) 0 = none) := by
  unfold State.linkIdle; decide

theorem witness_LockdownAcceptsOnlyItsWrites :
    locked.mc.mode = .lockdown ∧ Reg.action.access ≠ .readOnly ∧ Reg.linkfault.access ≠ .readOnly := by decide

/-- Every plain register with a word that passes its own check, at the limits of POLICY's fields; and MASK_HI of a
sealed node. -/
theorem witness_RegisterWriteStoresTheWord :
    node.linkIdle ∧ node.hears .broadcast = true ∧ node.mc.mode ≠ .lockdown ∧ node.regs.sealed = false
    ∧ (([0x07, 0x08, 0x09, 0x0A, 0x0B, 0x20, 0x21, 0x24, 0x35] : List Byte).all fun n =>
        (regAt n).any plainWritable && !node.brokenFor .broadcast n) = true
    ∧ (0xFFFE : Word).getLsbD 0 = false
    ∧ (([0x0F1F, 0x0100] : List Word).all fun d =>
        d.extractLsb' 5 3 == 0 && d.extractLsb' 12 4 == 0 && d.extractLsb' 8 4 != 0) = true
    ∧ (0x00FF : Word).extractLsb' 8 8 = 0 ∧ (0x038E : Word) &&& 0xFC71 = 0
    ∧ (let s : State := { node with regs := { node.regs with sealed := true } }
       s.linkIdle ∧ s.hears .broadcast = true ∧ s.mc.mode ≠ .lockdown ∧ s.regs.sealed = true
       ∧ s.brokenFor .broadcast 0x0B = false) := by
  unfold State.linkIdle; decide

theorem witness_PlainWriteChangesOneRegister : plainWritable .zones = true ∧ plainWritable .jfilter = true := by
  decide

theorem witness_ClearingWritesClear :
    node.linkIdle ∧ node.hears .broadcast = true ∧ node.brokenFor .broadcast 0x05 = false
    ∧ (0x000F : Word).extractLsb' 4 12 = 0 ∧ node.brokenFor .broadcast 0x06 = false
    ∧ node.brokenFor .broadcast 0x27 = false := by
  unfold State.linkIdle; decide

theorem witness_ReadsReturnTheRegister :
    node.linkIdle ∧ node.mc.nodeId ≠ 0 ∧ regAt 0x00 = some .ident ∧ Reg.ident.access ≠ .writeOnly
    ∧ regAt 0xBF = some (.desc 31 3) ∧ (Reg.desc 31 3).access ≠ .writeOnly := by
  unfold State.linkIdle; decide

/-! ## Descriptors, arming and reaction sets -/

/-- One witness for each word, and for W0 of an external source, of MISMATCH, SILENCE and HOSTRAISE. -/
theorem witness_DescriptorWriteStoresTheWord :
    node.linkIdle ∧ node.hears .broadcast = true ∧ node.mc.mode ≠ .lockdown ∧ node.regs.sealed = false
    ∧ (node.brokenFor .broadcast (descIndex 23 0) = false ∧ (node.src 23).armed = false ∧ (sourceOf 23).val < 24)
    ∧ ((node.src 24).armed = false ∧ (0xF8E0 : Word).extractLsb' 8 8 = BitVec.ofNat 8 (0xF8 + (24 - 24))
        ∧ (0xF8E0 : Word).extractLsb' 0 3 = 0 ∧ (0xF8E0 : Word).extractLsb' 3 2 = 0)
    ∧ ((node.src 29).armed = false ∧ (0xFDE8 : Word).extractLsb' 8 8 = BitVec.ofNat 8 (0xF8 + (29 - 24))
        ∧ (0xFDE8 : Word).extractLsb' 0 3 = 0 ∧ (0xFDE8 : Word).extractLsb' 3 2 = 1)
    ∧ ((node.src 31).armed = false ∧ (0xFFF0 : Word).extractLsb' 8 8 = BitVec.ofNat 8 (0xF8 + (31 - 24))
        ∧ (0xFFF0 : Word).extractLsb' 0 3 = 0 ∧ (0xFFF0 : Word).extractLsb' 3 2 = 2)
    ∧ ((node.src 30).armed = false ∧ (0xFE18 : Word).extractLsb' 8 8 = BitVec.ofNat 8 (0xF8 + (30 - 24))
        ∧ (0xFE18 : Word).extractLsb' 0 3 = 0)
    ∧ (0xFFF0 : Word).extractLsb' 0 4 = 0 := by
  unfold State.linkIdle; decide

/-- A valid W1 of COMPOUND, and a W1 of OVERRUN that fails check 5 (a set without a react-when). -/
theorem witness_AlwaysArmedDescriptorsAreValidated :
    node.Legal ∧ node.linkIdle ∧ node.hears .broadcast = true
    ∧ node.brokenFor .broadcast (descIndex 28 1) = false ∧ node.brokenFor .broadcast (descIndex 25 1) = false
    ∧ node.mc.mode = .configuring ∧ node.regs.sealed = false
    ∧ (0x0600 : Word).extractLsb' 0 4 = 0
    ∧ armFault compoundId { node.src compoundId with w1 := 0x0680 } = none
    ∧ armFault overrunId { node.src overrunId with w1 := 0x0600 } = some 5
    ∧ keepsFixed overrunId 0xF9E8 = true ∧ armFault overrunId { node.src overrunId with w0 := 0xF9E8 } = none :=
  ⟨legal_node, by unfold State.linkIdle; decide, by decide, by decide, by decide, by decide, by decide, by decide,
    by decide, by decide, by decide, by decide⟩

theorem witness_ReactionSetWriteStoresTheWord :
    node.linkIdle ∧ node.hears .broadcast = true ∧ node.brokenFor .broadcast (reactIndex 7 true) = false
    ∧ node.brokenFor .broadcast (reactIndex 1 false) = false ∧ node.mc.mode ≠ .lockdown ∧ node.regs.sealed = false
    ∧ (∀ c, c < 8 → (0xAAAA : Word).extractLsb' (2 * c) 2 ≠ 3)
    ∧ (node.set (setOf 7)).binding = none ∧ (node.set (setOf 1)).binding = none := by
  unfold State.linkIdle; decide

theorem witness_ArmAndDisarmSources :
    let s := node.setSrc 4 (source 0x24AA 0 0 .quiet 0)
    let t := node.setSrc 4 (source 0x24AA 0 0 .disarmed 0)
    (s.linkIdle ∧ s.hears .broadcast = true ∧ s.mc.mode ≠ .lockdown ∧ s.brokenFor .broadcast 0x0C = false
      ∧ s.brokenFor .broadcast 0x0D = false ∧ s.regs.sealed = false ∧ (s.src 4).state = .quiet)
    ∧ (t.linkIdle ∧ t.hears .broadcast = true ∧ t.mc.mode ≠ .lockdown ∧ t.brokenFor .broadcast 0x0C = false
      ∧ t.brokenFor .broadcast 0x0D = false ∧ t.regs.sealed = false ∧ (t.src 4).state = .disarmed
      ∧ armFault 4 (t.src 4) = none) := by
  unfold State.linkIdle; decide

/-- The running node with set 7 active, bound to source 4 in this state, and so channel 0 frozen. -/
def bound (state : SrcState) : State :=
  let s := (live.setSrc 4 (source 0x24AA 0x0E80 0 state 0)).putSet 6 { wordA := 1, wordB := 0, binding := some [4] }
  { s with act := { s.act with frozen := 1 } }

theorem legal_bound : (bound .quiet).Legal := legal_of_check (by decide)

theorem witness_ReleaseDropsTheSet :
    (locked.linkIdle ∧ locked.hears .broadcast = true ∧ locked.brokenFor .broadcast 0x26 = false
      ∧ locked.mc.mode = .lockdown)
    ∧ (live.linkIdle ∧ live.hears .broadcast = true ∧ live.brokenFor .broadcast 0x26 = false
      ∧ live.mc.mode ≠ .lockdown ∧ ¬(1 ≤ (0 : Word).toNat ∧ (0 : Word).toNat ≤ 7)
      ∧ ¬(1 ≤ (8 : Word).toNat ∧ (8 : Word).toNat ≤ 7) ∧ (live.set (setOf 1)).binding = none)
    ∧ ((bound .serving).linkIdle ∧ (bound .serving).mc.mode ≠ .lockdown
      ∧ ((bound .serving).set (setOf 7)).binding = some [4] ∧ 4 ∈ [(4 : SourceId)]
      ∧ ((bound .serving).src 4).state = .serving)
    ∧ ((bound .quiet).linkIdle ∧ (bound .quiet).mc.mode ≠ .lockdown
      ∧ ((bound .quiet).set (setOf 7)).binding = some [4]
      ∧ (∀ i ∈ [(4 : SourceId)], ((bound .quiet).src i).state = .quiet ∨ ((bound .quiet).src i).state = .disarmed)
      ∧ (bound .quiet).calm 1)
    ∧ (bound .quiet).FreezesLegal :=
  have h := legal_bound.freezes
  ⟨by unfold State.linkIdle; decide, by unfold State.linkIdle; decide, by unfold State.linkIdle; decide,
    by unfold State.linkIdle State.calm; decide, h⟩

/-! ## Claim, service and completion -/

/-- A running node with a compound condition of sources 4 and 8 on the stack, and HOSTRAISE Quiet with this W0. -/
def compounded (announced : Bool) (w0 : Word) : State :=
  let s := ((live.setSrc 4 (source 0x24AA 0 0 .serving 0)).setSrc 8 (source 0x28EA 0 0 .absorbed 0)).setSrc 30
    (source w0 0 0 .quiet 0)
  { s.setSrc compoundId { s.src compoundId with state := .serving, detail := 0x0408 } with
    arb := { s.arb with nextPosition := 1, alert := !announced }
    svc := { s.svc with
      stack := [{ source := 28, announced := announced, deadline := .none },
                { source := 4, announced := true, deadline := .none }]
      comprec0 := 0x0408 } }

theorem legal_compounded : (compounded true 0xFE08).Legal ∧ (compounded true 0xFE10).Legal
    ∧ (compounded false 0xFE08).Legal :=
  ⟨legal_of_check (by decide), legal_of_check (by decide), legal_of_check (by decide)⟩

theorem witness_ClaimAnnouncesCompound :
    let s := compounded false 0xFE08
    s.linkIdle ∧ s.mc.nodeId ≠ 0 ∧ s.mc.mode ≠ .lockdown
    ∧ s.svc.stack = { source := 28, announced := false, deadline := .none }
        :: [{ source := 4, announced := true, deadline := .none }]
    ∧ s.calm 1 := by
  unfold State.linkIdle State.calm; decide

theorem witness_ClaimTakesTheCandidate :
    let s := waiting 4 0x24AA 0 0x0105
    s.linkIdle ∧ s.mc.nodeId ≠ 0 ∧ s.mc.mode = .running ∧ s.topUnannounced = false
    ∧ s.candidate = some { source := 4, deadline := .runningDown 10 } ∧ s.calm 1 := by
  unfold State.linkIdle State.calm; decide

theorem witness_EmptyClaimChangesNothing :
    (live.AtRest ∧ live.linkIdle ∧ live.mc.nodeId ≠ 0 ∧ live.mc.mode = .running ∧ live.topUnannounced = false
      ∧ live.candidate = none ∧ live.arb.waiting = [])
    ∧ (node.AtRest ∧ node.EventsAgree ∧ node.mc.mode = .configuring) :=
  ⟨⟨legal_live.atRest, by unfold State.linkIdle; decide, by decide, by decide, by decide, by decide, by decide⟩,
    ⟨legal_node.atRest, legal_node.events, by decide⟩⟩

theorem witness_CandidateIsTheFirstEligible : (compounded false 0xFE08).EventsAgree := legal_compounded.2.2.events

theorem witness_ClaimWordLayout : node.FieldsLegal ∧ node.ArmedValid ∧ (node.src compoundId).armed = true :=
  ⟨legal_node.fields, legal_node.armed, by decide⟩

theorem witness_CompleteReturnsOrRelatches :
    let s := serving 17 0x5132 0x0040
    let t := s.setSrc 17 { s.src 17 with repeatCount := 255 }
    (s.linkIdle ∧ s.hears .broadcast = true ∧ s.brokenFor .broadcast 0x11 = false ∧ s.mc.mode ≠ .lockdown
      ∧ s.svc.stack = [{ source := 17, announced := true, deadline := .none }] ∧ s.calm 1
      ∧ (s.src 17).repeatCount = 0)
    ∧ (t.linkIdle ∧ t.hears .broadcast = true ∧ t.brokenFor .broadcast 0x11 = false ∧ t.mc.mode ≠ .lockdown
      ∧ t.svc.stack = [{ source := 17, announced := true, deadline := .none }] ∧ t.calm 1
      ∧ (t.src 17).repeatCount ≠ 0) := by
  unfold State.linkIdle State.calm; decide

theorem witness_CompleteReleasesAbsorbedSource :
    let s := compounded true 0xFE08
    s.Legal ∧ s.linkIdle ∧ s.hears .broadcast = true ∧ s.brokenFor .broadcast 0x11 = false ∧ s.mc.mode = .running
    ∧ s.svc.stack = { source := 28, announced := true, deadline := .none }
        :: [{ source := 4, announced := true, deadline := .none }]
    ∧ (s.src 8).state = .absorbed ∧ s.calm 1 :=
  ⟨legal_compounded.1, by unfold State.linkIdle; decide, by decide, by decide, by decide, by decide, by decide,
    by unfold State.calm; decide⟩

/-- A running node with HOSTRAISE in this state, of this W0 and W1. -/
def raisable (w0 w1 : Word) (state : SrcState) : State := live.setSrc 30 (source w0 w1 0x0200 state 0)

/-- A Notice; a Fault over an empty stack, and over a Fault and a Critical with compounding not enabled; a Critical over
an empty stack and over a Fault: each without a reaction and with set 1 at its latch. -/
theorem witness_RaiseLatchesNotice :
    let off (s : State) : State := { s with regs := { s.regs with policy := 0x0300 } }
    let above (i : SourceId) (w0 raiseW0 w1 : Word) : State := (serving i w0 0).setSrc 30 (source raiseW0 w1 0 .quiet 0)
    let quiet (s : State) : Bool := decide (s.link = live.link ∧ s.hears .broadcast = true
      ∧ s.brokenFor .broadcast 0x18 = false ∧ s.mc.mode = .running ∧ (s.src hostraiseId).state = .quiet
      ∧ s.jn.unread = [])
    let reacts (s : State) : Bool :=
      decide ((s.src hostraiseId).reactWhen = .atLatch ∧ (s.src hostraiseId).reactionSet ≠ 0)
    live.linkIdle
    ∧ ([0, 0x0280].all fun w1 =>
        let notice := raisable 0xFE00 (w1 ||| 0x0010) .quiet
        let faults := [off (above 4 0x24AA 0xFE08 w1), off (above 17 0x5132 0xFE08 w1)]
        let criticals := [raisable 0xFE10 w1 .quiet, above 4 0x24AA 0xFE10 w1]
        quiet notice && decide ((notice.src hostraiseId).cls = .notice)
        && (raisable 0xFE08 w1 .quiet :: faults).all (fun s => quiet s && decide ((s.src hostraiseId).cls = .fault))
        && (faults.all fun s => decide ((s.severity = 1 ∨ s.severity = 2) ∧ s.compoundEnable = false))
        && (criticals.all fun s => quiet s
          && decide ((s.src hostraiseId).cls = .critical ∧ (s.severity = 0 ∨ s.severity = 1)))
        && (notice :: faults ++ criticals).all (fun s => reacts s == (w1 != 0))) = true :=
  ⟨by unfold State.linkIdle; decide, by decide⟩

/-- R82: a Critical over a Fault in service latches, with set 1 bound to it. -/
theorem test_raise_critical :
    let t := after (.raise .broadcast 7 1) ((serving 4 0x24AA 0).setSrc 30 (source 0xFE10 0x0280 0 .quiet 0))
    (t.src 30).state = .pending ∧ (t.src 30).detail = 7 ∧ (t.set 0).binding = some [30] ∧ readReg t .active = 2 := by decide

theorem witness_RaiseCountsOrIsDiscarded :
    (∀ s ∈ [raisable 0xFE00 0 .pending, raisable 0xFE00 0 .absorbed, raisable 0xFE00 0x0040 .serving,
        raisable 0xFE00 0 .serving],
      s.link = live.link ∧ s.hears .broadcast = true ∧ s.brokenFor .broadcast 0x18 = false ∧ s.mc.mode = .running)
    ∧ live.linkIdle
    ∧ ((raisable 0xFE00 0x0040 .serving).src hostraiseId).repeats = true
    ∧ ((raisable 0xFE00 0 .serving).src hostraiseId).repeats = false := by
  unfold State.linkIdle; decide

/-! ## Escalation -/

/-- A running node with this source in service alone, and HOSTRAISE Quiet with this W0. -/
def weighed (i : SourceId) (w0 raiseW0 : Word) : State :=
  (serving i w0 0).setSrc 30 (source raiseW0 0 0 .quiet 0)

/-- A running node with a full stack, a Fault on top, and HOSTRAISE a Quiet Fault. -/
def fullStack : State :=
  let s := ((((live.setSrc 1 (source 0x0102 0 0 .serving 0)).setSrc 2 (source 0x0222 0 0 .serving 0)).setSrc 3
    (source 0x0342 0 0 .serving 0)).setSrc 4 (source 0x240A 0 0 .serving 0)).setSrc 30 (source 0xFE08 0 0 .quiet 0)
  { s with svc := { s.svc with stack :=
      [{ source := 4, announced := true, deadline := .none }, { source := 3, announced := true, deadline := .none },
       { source := 2, announced := true, deadline := .none }, { source := 1, announced := true, deadline := .none }] } }

/-- A Fault over a Fault, over a Critical and over a full stack; a Critical over a Critical; a Fault and a Critical
over COMPOUND. -/
theorem witness_RaiseEscalates :
    ((weighed 4 0x24AA 0xFE08).Legal ∧ (weighed 17 0x5132 0xFE08).Legal ∧ fullStack.Legal
      ∧ (weighed 17 0x5132 0xFE10).Legal ∧ (compounded true 0xFE08).Legal ∧ (compounded true 0xFE10).Legal)
    ∧ (∀ s ∈ [weighed 4 0x24AA 0xFE08, weighed 17 0x5132 0xFE08, fullStack, weighed 17 0x5132 0xFE10,
        compounded true 0xFE08, compounded true 0xFE10],
      s.link = live.link ∧ s.hears .broadcast = true ∧ s.brokenFor .broadcast 0x18 = false ∧ s.mc.mode = .running
      ∧ (s.src hostraiseId).state = .quiet ∧ s.compoundEnable = true ∧ s.svc.stack ≠ [])
    ∧ live.linkIdle
    ∧ (weighed 4 0x24AA 0xFE08).rank 4 = 1 ∧ ((weighed 4 0x24AA 0xFE08).src hostraiseId).cls = .fault
    ∧ (weighed 17 0x5132 0xFE08).rank 17 = 2 ∧ fullStack.rank 4 = 1 ∧ fullStack.svc.stack.length = 4
    ∧ ((weighed 17 0x5132 0xFE10).src hostraiseId).cls = .critical
    ∧ (compounded true 0xFE08).rank 28 = 3 :=
  ⟨⟨legal_of_check (by decide), legal_of_check (by decide), legal_of_check (by decide), legal_of_check (by decide),
      legal_compounded.1, legal_compounded.2.1⟩,
    by decide, by unfold State.linkIdle; decide, by decide, by decide, by decide, by decide, by decide, by decide,
    by decide⟩

theorem witness_SeverityIsTheTopsClass :
    live.svc.stack = [] ∧ fullStack.svc.stack ≠ [] ∧ live.EventsAgree ∧ fullStack.EventsAgree :=
  ⟨by decide, by decide, legal_live.events, (legal_of_check (by decide)).events⟩

theorem witness_ForceLockdownEntersOnce :
    ∀ s ∈ [node, live, locked],
      s.linkIdle ∧ s.hears .broadcast = true ∧ s.brokenFor .broadcast 0x02 = false := by
  unfold State.linkIdle; decide

/-! ## Modes, the seal and the journal's actions -/

/-- Lockdown with the lockdown record read. -/
def acknowledged : State := { locked with mc := { locked.mc with causeSeen := true } }

theorem witness_StartAndStopChangeTheMode :
    (∀ s ∈ [node, live, serving 4 0x24AA 0],
      s.linkIdle ∧ s.hears .broadcast = true ∧ s.brokenFor .broadcast 0x02 = false)
    ∧ node.mc.mode = .configuring
    ∧ (live.mc.mode = .running ∧ live.arb.waiting = [] ∧ live.svc.stack = [])
    ∧ ((serving 4 0x24AA 0).mc.mode = .running ∧ (serving 4 0x24AA 0).svc.stack ≠ []) := by
  unfold State.linkIdle; decide

theorem witness_RecoverClearsEventsKeepsEvidence :
    (∀ s ∈ [live, locked, acknowledged],
      s.linkIdle ∧ s.hears .broadcast = true ∧ s.brokenFor .broadcast 0x02 = false)
    ∧ (locked.mc.mode = .lockdown ∧ locked.mc.causeSeen = false)
    ∧ (acknowledged.mc.mode = .lockdown ∧ acknowledged.mc.causeSeen = true) ∧ live.mc.mode ≠ .lockdown := by
  unfold State.linkIdle; decide

theorem witness_ReinitResetsAllButConfiguration :
    (∀ s ∈ [node, live, locked, acknowledged],
      s.linkIdle ∧ s.hears .broadcast = true ∧ s.brokenFor .broadcast 0x02 = false)
    ∧ node.mc.mode = .configuring ∧ live.mc.mode = .running
    ∧ (locked.mc.mode = .lockdown ∧ locked.mc.causeSeen = false)
    ∧ (acknowledged.mc.mode = .lockdown ∧ acknowledged.mc.causeSeen = true) := by
  unfold State.linkIdle; decide

theorem witness_SealFixesTheConfiguration :
    (∀ s ∈ [live, locked], s.linkIdle ∧ s.hears .broadcast = true ∧ s.brokenFor .broadcast 0x02 = false)
    ∧ live.mc.mode ≠ .lockdown ∧ locked.mc.mode = .lockdown ∧ isHardReset .powerOnReset = true
    ∧ (let s := { live with regs := { live.regs with sealed := true } }
       s.regs.sealed = true ∧ isHardReset (.reinit .broadcast 1) = false
       ∧ exec (.reinit .broadcast 1) s = .next (after (.reinit .broadcast 1) s)) :=
  ⟨by unfold State.linkIdle; decide, by decide, by decide, by decide, by decide, by decide, rfl⟩

theorem witness_JournalActions :
    let s := { node with jn := { node.jn with unread := [⟨1, 2, 3, 4⟩] } }
    (s.linkIdle ∧ s.hears .broadcast = true ∧ s.brokenFor .broadcast 0x02 = false
      ∧ s.jn.unread = ⟨1, 2, 3, 4⟩ :: [])
    ∧ (node.linkIdle ∧ node.hears .broadcast = true ∧ node.brokenFor .broadcast 0x02 = false
      ∧ node.jn.unread = []) := by
  unfold State.linkIdle; decide

/-- The running node with a full journal, set 7 active with its source Quiet, and JOURNAL in this state. -/
def overflowing (state : SrcState) : State :=
  let s := (bound .quiet).setSrc journalId (source 0xFB00 0x0020 0 state 0)
  { s with
    jn := { s.jn with unread := List.replicate 48 ⟨1, 2, 3, 4⟩, lost := 254 }
    arb :=
      if state = .pending then
        { waiting := [{ source := 27, deadline := .none }], nextPosition := 1, alert := true }
      else s.arb }

theorem witness_FullJournalLosesOneRecord :
    (let w := begin { live with jn := { live.jn with unread := List.replicate 48 ⟨1, 2, 3, 4⟩ } }
     w.st.jn.unread.length = 48 ∧ w.st.recordAdmitted .mode none = true
     ∧ w.st.recordAdmitted .absorb (some 4) = true)
    ∧ ((overflowing .quiet).mc.mode = .running ∧ ((overflowing .quiet).src journalId).cls = .notice
      ∧ ((overflowing .quiet).src journalId).reactWhen = .never
      ∧ ((raisable 0xFE00 0 .quiet).setSrc 27 (source 0xFB00 0x40 0 .serving 0)).mc.mode = .running)
    ∧ ((overflowing .quiet).Legal ∧ (overflowing .pending).Legal)
    ∧ ((overflowing .quiet).linkIdle ∧ (overflowing .quiet).hears .broadcast = true
      ∧ (overflowing .quiet).brokenFor .broadcast 0x26 = false
      ∧ ((overflowing .quiet).set (setOf 7)).binding = some [4]
      ∧ (∀ i ∈ [(4 : SourceId)], ((overflowing .quiet).src i).state = .quiet)
      ∧ (overflowing .quiet).jn.unread.length = 48 ∧ (overflowing .quiet).jn.filter.getLsbD 8 = true) :=
  ⟨by decide, by decide, ⟨legal_of_check (by decide), legal_of_check (by decide)⟩, by unfold State.linkIdle; decide⟩

/-- R156: the lost record of a Release is counted, and so is the Latch record of the JOURNAL occurrence that it calls
for, which calls for no other. -/
theorem test_lost_record_latches_journal :
    let t := after (.release .broadcast 7 1) (overflowing .quiet)
    (t.src 27).state = .pending ∧ (t.src 27).count = 1 ∧ (t.src 27).detail = 255 ∧ t.jn.lost = 255 := by decide

/-! ## The scan tick and the deadlines -/

theorem witness_TickOutsideRunning :
    State.reset.rst.held = true
    ∧ (∀ s ∈ [node, locked], s.rst.held = false ∧ s.rst.intervalLeft = 0 ∧ s.link.phase ≠ .shifting
        ∧ s.mc.mode ≠ .running) := by decide

/-- A running node past its first tick with source 4, settle 1, Quiet with this W0, and a raw level that has not been
sampled before. -/
def lineReady (w0 : Word) : State :=
  { live.setSrc 4 (source w0 0x0010 0 .quiet 0) with scan := { live.scan with started := true } }

/-- The running node past its first tick, with this source of line 4 and a Fault of source 1 in service. -/
def lineOver (x : Source) : State :=
  { (serving 1 0x010A 0).setSrc 4 x with scan := { live.scan with started := true } }

/-- The node of `fullStack` past its first tick, source 5 a Quiet Fault. -/
def lineFull : State :=
  { fullStack.setSrc 5 (source 0x060A 0 0 .quiet 0) with scan := { live.scan with started := true } }

/-- The running node past its first tick, with a COMPOUND entry on top and source 5 Quiet with this W0. -/
def lineCompound (w0 : Word) : State :=
  { (compounded true 0xFE08).setSrc 5 (source w0 0 0 .quiet 0) with scan := { live.scan with started := true } }

/-- A Notice with each trigger, LevelHigh, Rising and Both occurring as the line rises; a Fault and a Critical over a
Fault; a Fault over a full stack; a Fault and a Critical over COMPOUND; and a Pending and a Serving source, with repeat
0 and 1. -/
theorem witness_TickLatchesLineSources :
    ([lineReady 0x2400, lineReady 0x2401, lineReady 0x2402, lineReady 0x2403, lineReady 0x2404,
        lineOver (source 0x240A 0 0 .quiet 0), lineOver (source 0x2412 0 0 .quiet 0), lineFull,
        lineCompound 0x060A, lineCompound 0x0612,
        { waiting 4 0x2402 0 0 with scan := { live.scan with started := true } },
        { serving 4 0x2402 0 with scan := { live.scan with started := true } },
        { serving 4 0x2402 0x40 with scan := { live.scan with started := true } }].all fun s =>
      decide (s.rst.held = false ∧ s.rst.intervalLeft = 0 ∧ s.link.phase ≠ .shifting ∧ s.mc.mode = .running
        ∧ s.scan.started = true) && legalCheck s) = true
    ∧ ((lineReady 0x2402).src 4).state = .quiet
    ∧ lineSource 4 = 4 ∧ (0x10 : BitVec 24).getLsbD 4 ≠ (lineReady 0x2402).scan.filtered.getLsbD 4
    ∧ max 1 (((lineReady 0x2402).src 4).w1.extractLsb' 12 4).toNat ≤ (lineReady 0x2402).scan.settle.get 4 + 1
    ∧ ((lineOver (source 0x240A 0 0 .quiet 0)).severity = 1 ∧ lineFull.severity = 1
      ∧ (lineCompound 0x060A).severity = 3 ∧ lineFull.svc.stack.length = 4 ∧ lineFull.compoundEnable = true) :=
  ⟨by decide, by decide, by decide, by decide, by decide, by decide⟩

/-- A running node with source 6 in service, source 10 pending behind it, and the watchdog running. -/
def counting : State :=
  let s := (waiting 10 0x0A2A 0 0x0200).setSrc 6 (source 0x064A 0 5 .serving 0)
  { s with
    arb := { s.arb with alert := false }
    svc := { s.svc with stack := [{ source := 6, announced := true, deadline := .runningDown 500 }] }
    scan := { s.scan with started := true }
    dl := { watchdog := some 200 } }

theorem legal_counting : counting.Legal := legal_of_check (by decide)

/-- A running node past its first tick whose readback of channel 0 has differed for two ticks, with MISMATCH in this
state and with this W1. -/
def mismatching (s : State) (w1 : Word) (state : SrcState) : State :=
  let x := s.setSrc mismatchId (source 0xFD08 w1 0 state 0)
  { x with
    scan := { x.scan with started := true }
    act := { x.act with rbcheck := 1, counters := (Vector.replicate 16 0).set 0 2 } }

/-- Nothing checked; and channel 0 joining the mismatch set with MISMATCH Disarmed, with MISMATCH Quiet over an empty
stack, over a Fault, over a full stack and over COMPOUND, and with MISMATCH Serving. -/
theorem witness_RunningTickCountsDeadlines :
    counting.Legal ∧ counting.rst.held = false ∧ counting.rst.intervalLeft = 0 ∧ counting.mc.mode = .running
    ∧ counting.link.phase ≠ .shifting
    ∧ (∀ k : LineId, (sampleInputs 0 0 counting).lineOccurs (counting.changedLines 0) k = false)
    ∧ counting.act.rbcheck = 0
    ∧ (∀ e rest, counting.svc.stack = e :: rest → e.deadline ≠ .runningDown 0 ∧ e.deadline ≠ .runningDown 1)
    ∧ (∀ e ∈ counting.arb.waiting, e.deadline ≠ .runningDown 0 ∧ e.deadline ≠ .runningDown 1)
    ∧ counting.dl.watchdog ≠ some 0 ∧ counting.dl.watchdog ≠ some 1
    ∧ ([mismatching live 0 .disarmed, mismatching live 0 .quiet, mismatching (serving 1 0x010A 0) 0 .quiet,
          mismatching fullStack 0 .quiet, mismatching (compounded true 0xFE08) 0 .quiet,
          mismatching (serving 29 0xFD08 0x40) 0x40 .serving].all fun s =>
        legalCheck s && decide (s.mc.mode = .running ∧ s.dl.watchdog = none ∧ s.arb.waiting = []
          ∧ (∀ e ∈ s.svc.stack, e.deadline = .none)
          ∧ (sampleInputs 0 1 s).joining = 1
          ∧ (∀ k : LineId, (sampleInputs 0 1 s).lineOccurs (s.changedLines 0) k = false))) = true :=
  ⟨legal_counting, by decide, by decide, by decide, by decide, by decide, by decide,
    fun e rest h => by
      have he : e = { source := 6, announced := true, deadline := .runningDown 500 } :=
        (List.cons.inj h).1.symm
      subst he; decide,
    by decide, by decide, by decide, by decide⟩

/-- R150: the channel that joins in Running is MISMATCH's detail word, and over a Fault a compound condition of it. -/
theorem test_mismatch :
    (let t := after (.scanTick 0 1) (mismatching live 0 .quiet)
     (t.src 29).state = .pending ∧ (t.src 29).detail = 1 ∧ t.act.mismatchDet = 1)
    ∧ readReg (after (.scanTick 0 1) (mismatching (serving 1 0x010A 0) 0 .quiet)) .comprec0 = 0x011D := by decide

/-- A Notice in service with a service deadline that is about to expire. -/
def expiring : State :=
  { serving 6 0x0642 0 with
    svc := { live.svc with stack := [{ source := 6, announced := true, deadline := .runningDown 1 }] } }

/-- A source in service with a service deadline that is about to expire, and compounding enabled or not. -/
def overrunning (w0 : Word) (enable : Bool) : State :=
  { serving 6 w0 0 with
    svc := { live.svc with stack := [{ source := 6, announced := true, deadline := .runningDown 1 }] }
    regs := { live.regs with policy := if enable then 0x0301 else 0x0300 } }

/-- The node of `fullStack` with the deadline of its top about to expire. -/
def overrunningFull : State :=
  { fullStack with svc := { fullStack.svc with stack :=
      { source := 4, announced := true, deadline := .runningDown 1 } :: fullStack.svc.stack.drop 1 } }

/-- The Notice of `expiring` with OVERRUN Pending and claimable over it. -/
def overrunPending : State :=
  { waiting overrunId 0xF908 0 0 with srcs := (expiring.setSrc overrunId (source 0xF908 0 0 .pending 0)).srcs, svc := expiring.svc }

/-- A Critical in service over a Serving OVERRUN of this W1, with a service deadline that is about to expire. -/
def overrunServing (w1 : Word) : State :=
  { (live.setSrc 17 (source 0x5132 0 0 .serving 0)).setSrc overrunId (source 0xF908 w1 0 .serving 0) with
    svc := { live.svc with stack :=
      [{ source := 17, announced := true, deadline := .runningDown 1 },
       { source := overrunId, announced := true, deadline := .none }] } }

/-- OVERRUN Pending, Serving with repeat 0 and 1, and Quiet over a Notice, over a Fault and a Critical with compounding
enabled and not, and over a full stack. -/
theorem witness_ServiceExpiryRaisesOverrun :
    (expiring.Legal ∧ expiring.mc.mode = .running
      ∧ expiring.svc.stack = [{ source := 6, announced := true, deadline := .runningDown 1 }]
      ∧ (6 : SourceId) ≠ overrunId ∧ (6 : SourceId) ≠ compoundId
      ∧ (expiring.src overrunId).state = .quiet ∧ expiring.rank 6 = 0)
    ∧ ([expiring.setSrc overrunId (source 0xF908 0 0 .pending 0), expiring.setSrc overrunId (source 0xF908 0 0 .serving 0),
          expiring.setSrc overrunId (source 0xF908 0x40 0 .serving 0)].all fun s =>
        decide (s.mc.mode = .running ∧ s.svc.stack = [{ source := 6, announced := true, deadline := .runningDown 1 }]))
        = true
    ∧ ([overrunning 0x064A true, overrunning 0x0652 true, overrunning 0x064A false, overrunning 0x0652 false].all
        fun s => legalCheck s && decide (s.mc.mode = .running ∧ (s.src overrunId).state = .quiet
          ∧ (s.rank 6 = 1 ∨ s.rank 6 = 2))) = true
    ∧ (overrunningFull.Legal ∧ overrunningFull.mc.mode = .running ∧ overrunningFull.rank 4 = 1
      ∧ (overrunningFull.src overrunId).state = .quiet ∧ overrunningFull.compoundEnable = true)
    ∧ ([expiring, overrunning 0x064A true, overrunning 0x0652 false, overrunningFull, overrunPending,
          overrunServing 0, overrunServing 0x40].all (countingCheck 0 0)) = true
    ∧ (overrunPending.src overrunId).state = .pending ∧ ((overrunServing 0x40).src overrunId).repeats = true :=
  ⟨⟨legal_of_check (by decide), by decide, by decide, by decide, by decide, by decide, by decide⟩, by decide,
    by decide, ⟨legal_of_check (by decide), by decide, by decide, by decide, by decide⟩, by decide, by decide,
    by decide⟩

/-- R132, R133: the tick at which the top's deadline runs out marks source 6 and raises OVERRUN for it. -/
theorem test_tick_expires_service_deadline :
    let t := after (.scanTick 0 0) expiring
    (t.src 6).overrun = true ∧ (t.src 25).state = .pending ∧ (t.src 25).detail = 6
      ∧ t.svc.stack = [{ source := 6, announced := true, deadline := .spent }] ∧ t.tc.count = 1 := by decide

/-- OVERRUN alone in service with a service deadline that is about to expire. -/
def overrunAlone : State :=
  { serving overrunId 0xF908 0 with
    svc := { live.svc with stack := [{ source := overrunId, announced := true, deadline := .runningDown 1 }] } }

/-- COMPOUND in service over source 4 with a service deadline that is about to expire. -/
def compoundExpiring : State :=
  let s := compounded true 0xFE08
  { s with svc := { s.svc with stack :=
      { source := compoundId, announced := true, deadline := .runningDown 1 } :: s.svc.stack.drop 1 } }

/-- OVERRUN over nothing and over another source, and at a tick OVERRUN alone and COMPOUND. -/
theorem witness_NestedOverrunLocksDown :
    (∀ s ∈ [{ live with svc := { live.svc with stack :=
          [{ source := 25, announced := true, deadline := .runningDown 1 }] } },
        { live with svc := { live.svc with stack :=
          [{ source := 25, announced := true, deadline := .runningDown 1 },
           { source := 6, announced := true, deadline := .none }] } }],
      s.mc.mode = .running ∧ s.svc.stack.head? = some { source := 25, announced := true, deadline := .runningDown 1 })
    ∧ (25 : SourceId) = overrunId
    ∧ ([overrunAlone, compoundExpiring].all fun s =>
        countingCheck 0 0 s && decide (s.svc.stack.head?.map (·.deadline) = some (.runningDown 1))) = true
    ∧ overrunAlone.svc.stack.map (·.source) = [overrunId]
    ∧ compoundExpiring.svc.stack.map (·.source) = [compoundId, 4] := by decide

/-- R135: the tick at which COMPOUND's deadline runs out over source 4 reads LOCKREC 0x5384. -/
theorem test_tick_expires_nested : (after (.scanTick 0 0) compoundExpiring).mc.lockrec = 0x5384 := by decide

/-- A running node with source 10, which applies set 2 at its deadline, pending with its claim deadline about to
expire, and with STALE in this state and of this W1. -/
def staleCounting (w1 : Word) (state : SrcState) : State :=
  let s := (waiting 10 0x0A6A 0x0500 0x0200).setSrc staleId
    { source 0xFA00 w1 0 state 1 with count := if state = .pending then 255 else 0 }
  { s with
    arb :=
      { waiting := { source := 10, deadline := .runningDown 1 } ::
          (if state = .pending then [{ source := staleId, deadline := .none }] else [])
        nextPosition := 2, alert := true }
    svc := { s.svc with stack :=
      if state = .serving then [{ source := staleId, announced := true, deadline := .none }] else [] } }

/-- STALE Disarmed, Pending and Serving with repeat 0 and 1; an AtDeadline source that names set 2; STALE Quiet, with
and without such a source; and at a tick STALE in each of its states. -/
theorem witness_ClaimExpiryMarksAndRaisesStale :
    let e : PendEntry := { source := 10, deadline := .runningDown 20 }
    let s := waiting 10 0x0A6A 0 0x0200
    let u := waiting 10 0x0A6A 0x0500 0x0200
    let quiet (x : State) := x.setSrc staleId (source 0xFA00 0 0 .quiet 0)
    ([s, s.setSrc staleId (source 0xFA00 0 0 .pending 1), s.setSrc staleId (source 0xFA00 0 0 .serving 0),
        s.setSrc staleId (source 0xFA00 0x40 0 .serving 0), u, quiet s, quiet u].all fun t =>
      decide (t.mc.mode = .running ∧ t.arb.waiting = [e] ∧ t.eligible 10 = true)) = true
    ∧ ((10 : SourceId) ≠ staleId ∧ (s.src 10).reactWhen ≠ .atDeadline ∧ (s.src staleId).state = .disarmed)
    ∧ ((u.src 10).reactWhen = .atDeadline ∧ (u.src 10).reactionSet ≠ 0 ∧ u.calm 1
      ∧ (u.src staleId).state = .disarmed)
    ∧ (quiet s).Legal ∧ (quiet u).Legal
    ∧ ([staleCounting 0 .disarmed, staleCounting 0 .quiet, staleCounting 0 .pending, staleCounting 0 .serving,
          staleCounting 0x40 .serving].all fun t =>
        countingCheck 0 0 t && decide ({ source := 10, deadline := .runningDown 1 } ∈ t.arb.waiting
          ∧ t.eligible 10 = true ∧ (∀ p ∈ t.arb.waiting, p.source = 10 → p = ⟨10, .runningDown 1⟩)
          ∧ (∀ top ∈ t.svc.stack, top.deadline.due = false))) = true :=
  ⟨by decide, by decide, by unfold State.calm; decide, legal_of_check (by decide), legal_of_check (by decide),
    by decide⟩

/-- R128: the tick at which a claim deadline runs out marks source 10 and raises STALE for it. -/
theorem test_tick_expires_claim_deadline :
    let t := after (.scanTick 0 0) (staleCounting 0 .quiet)
    (t.src 10).expired = true ∧ (t.src 10).state = .pending ∧ (t.src 26).state = .pending ∧ (t.src 26).detail = 10
      ∧ t.arb.waiting.map (·.deadline) = [.spent, .none] := by decide

/-- SILENCE Disarmed, Pending and Serving; Quiet over an empty stack, with and without a reaction at its latch, over a
Notice and a Fault; Quiet over a Critical and over COMPOUND; and the same at a tick. -/
theorem witness_WatchdogExpiryRaisesSilence :
    let run (s : State) : State := { s with dl := { watchdog := some 1 } }
    let quiet (w1 : Word) (s : State) : State := run (s.setSrc silenceId (source 0xFF10 w1 0 .quiet 0))
    let q := quiet 0 (serving 17 0x5132 0)
    let c := quiet 0 (compounded true 0xFE08)
    ((run live).mc.mode = .running ∧ (run live).dl.watchdog = some 1 ∧ ((run live).src silenceId).state = .disarmed)
    ∧ ((run (waiting silenceId 0xFF10 0 0)).mc.mode = .running
      ∧ (run (waiting silenceId 0xFF10 0 0)).dl.watchdog = some 1
      ∧ ((run (waiting silenceId 0xFF10 0 0)).src silenceId).state = .pending)
    ∧ (((run (serving silenceId 0xFF10 0)).src silenceId).state = .serving
      ∧ ((run (serving silenceId 0xFF10 0x40)).src silenceId).w1.getLsbD 6 = true)
    ∧ ([quiet 0 live, quiet 0x0280 live, quiet 0 (serving 6 0x0642 0), quiet 0 (serving 6 0x064A 0)].all fun s =>
        legalCheck s && decide (s.mc.mode = .running ∧ s.dl.watchdog = some 1 ∧ (s.src silenceId).state = .quiet
          ∧ ∀ e ∈ s.svc.stack, s.rank e.source ≤ 1)) = true
    ∧ (q.Legal ∧ q.mc.mode = .running ∧ q.dl.watchdog = some 1 ∧ (q.src silenceId).state = .quiet
      ∧ q.svc.stack = [{ source := 17, announced := true, deadline := .none }] ∧ q.rank 17 = 2)
    ∧ (c.Legal ∧ c.mc.mode = .running ∧ (c.src silenceId).state = .quiet
      ∧ c.svc.stack.head? = some { source := 28, announced := true, deadline := .none })
    ∧ ([run live, run (waiting silenceId 0xFF10 0 0), run (serving silenceId 0xFF10 0),
          run (serving silenceId 0xFF10 0x40), quiet 0 live, quiet 0x0280 live, quiet 0 (serving 6 0x064A 0), q, c].all
        fun s => countingCheck 0 0 s && decide (s.dl.watchdog = some 1
          ∧ ∀ top ∈ s.svc.stack, top.deadline.due = false)) = true :=
  ⟨by decide, by decide, by decide, by decide,
    ⟨legal_of_check (by decide), by decide, by decide, by decide, by decide, by decide⟩,
    ⟨legal_of_check (by decide), by decide, by decide, by decide⟩, by decide⟩

/-- R137: the tick at which the watchdog runs out stops it and raises SILENCE. -/
theorem test_tick_expires_watchdog :
    let s := live.setSrc 31 (source 0xFF10 0 0 .quiet 0)
    let t := after (.scanTick 0 0) { s with dl := { watchdog := some 1 } }
    t.dl.watchdog = none ∧ (t.src 31).state = .pending ∧ (t.src 31).count = 1 := by decide

/-! ## Invariants -/

/-- A running node with a Complete waiting for it. -/
def stepping : State := { fullStack with pending := [.complete .broadcast 4 1] }

theorem witness_invariants :
    stepping.Legal ∧ stepping.AtRest ∧ stepping.LinkLegal ∧ stepping.FieldsLegal ∧ stepping.FreezesLegal
    ∧ step stepping = .next (after (.complete .broadcast 4 1) fullStack) := by
  have h : stepping.Legal := legal_of_check (by decide)
  exact ⟨h, h.atRest, h.link, h.fields, h.freezes, rfl⟩

theorem witness_StepKeepsPinsAndBounds :
    stepping.AtRest ∧ step stepping = .next (after (.complete .broadcast 4 1) fullStack) :=
  ⟨witness_invariants.2.1, witness_invariants.2.2.2.2.2⟩

theorem witness_StepKeepsLinkLegal :
    stepping.LinkLegal ∧ step stepping = .next (after (.complete .broadcast 4 1) fullStack) :=
  ⟨witness_invariants.2.2.1, witness_invariants.2.2.2.2.2⟩

theorem witness_StepKeepsFieldsAndFreezes :
    stepping.FieldsLegal ∧ stepping.FreezesLegal
    ∧ step stepping = .next (after (.complete .broadcast 4 1) fullStack) :=
  ⟨witness_invariants.2.2.2.1, witness_invariants.2.2.2.2.1, witness_invariants.2.2.2.2.2⟩

theorem witness_StepKeepsEventsAgree :
    stepping.Legal ∧ step stepping = .next (after (.complete .broadcast 4 1) fullStack) :=
  ⟨witness_invariants.1, witness_invariants.2.2.2.2.2⟩

theorem witness_LockdownKeepsEvidenceUntilAcknowledged :
    (∀ s ∈ [locked, acknowledged], s.mc.mode = .lockdown ∧ s.svc.stack.length ≤ Config.stackLimit
      ∧ s.jn.unread.length ≤ Config.journalLimit ∧ (s.src overrunId).armed = true ∧ (s.src compoundId).armed = true
      ∧ s.act.effective = s.effectiveWord ∧ s.arb.alert = s.alertCondition)
    ∧ isHardReset (.recover .broadcast 1) = false
    ∧ exec (.recover .broadcast 1) acknowledged = .next (after (.recover .broadcast 1) acknowledged) :=
  ⟨by decide, by decide, rfl⟩

end Sys2Proof.Tests
end

section
/-! PROOFS. The frames of an idle link whose register execution is one update of the state: an accepted Write and a
refused Write answer the state that the statements name with `after` and `refusedAs`. -/

namespace Sys2Proof.Machine

/-- The receipt that a heard frame builds is a change of the link unit only. -/
theorem heard_eq (s : State) (dest : Dest) : s.heard dest = { s with link := (s.heard dest).link } := by
  unfold State.heard
  split <;> rfl

/-- A hold is broken for the same Writes after the receipt has been built. -/
@[simp] theorem brokenFor_heard (s : State) (dest d : Dest) (index : Byte) :
    (s.heard dest).brokenFor d index = s.brokenFor d index := by
  unfold State.heard
  split <;> rfl

/-- A request meets a broken hold exactly where its addressee and its index do (R35). -/
@[simp] theorem holdBroken_request (s : State) (dest : Dest) (op : FrameOp) (index : Byte) (data : Word)
    (tag : BitVec 4) : s.holdBroken (request dest op index data tag) = s.brokenFor dest index := by
  simp only [State.holdBroken, isDirected_request, request_index]
  rfl

/-- The refusal checks of a Write do not look at the link unit (R27 to R31). -/
@[simp] theorem writeRefusal_link (s : State) (l : LinkUnit) (r : Reg) (data : Word) :
    writeRefusal { s with link := l } r data = writeRefusal s r data := by
  cases r <;> rfl

/-- The refusal checks of a Write on the state in which its frame is executed (R27 to R31). -/
theorem writeRefusal_heard (s : State) (dest : Dest) (r : Reg) (data : Word) :
    writeRefusal (endHold (s.heard dest)) r data = writeRefusal s r data := by
  rw [heard_eq]
  exact writeRefusal_link s _ r data

/-- The record of a request whose hold has ended is the record that `replied` makes (R21, R34, R136). -/
theorem recordReply_request (s : State) (dest : Dest) (op : FrameOp) (index : Byte) (data : Word) (tag : BitVec 4)
    (reply : Reply) :
    recordReply (request dest op index data tag) reply (endHold s) = s.replied dest reply.outcome tag reply.data := by
  simp only [recordReply, isDirected_request]
  rfl

/-- The happening of an admitted frame whose execution is one update of the state and causes no occurrence (R92). -/
theorem admitFrame_of_update {r : Request} {reg : Reg} {s : State} {f : State → State} {reply : Reply}
    (hx : executeRequest s r reg ((begin s).map endHold) = (((begin s).map endHold).map f, reply))
    (hn : reg = .raise → reply.outcome ≠ .done) :
    admitFrame r reg s = endHappening (recordReply r reply (f (endHold s))) := by
  have hq : ∀ w : Work, raiseOccurrence r reg reply w = w := fun w => by
    unfold raiseOccurrence
    exact if_neg fun h => hn h.2.1 h.2.2
  rw [admitFrame_eq, hx, hq]
  rfl

/-- A Write that an idle node hears, of a register that is not read-only and no broken hold, is executed (R8, R13,
R27, R35). -/
theorem sendRequest_write {s : State} {dest : Dest} {index : Byte} {reg : Reg} {data : Word} {f : State → State}
    {reply : Reply} (tag : BitVec 4) (hi : s.linkIdle) (hh : s.hears dest = true)
    (hb : s.brokenFor dest index = false) (hr : regAt index = some reg) (ha : reg.access ≠ .readOnly)
    (hx : executeWrite index reg data ((begin (s.heard dest)).map endHold) =
      (((begin (s.heard dest)).map endHold).map f, reply))
    (hc : f (endHold (s.heard dest)) = endHold (f (s.heard dest)))
    (hn : reg = .raise → reply.outcome ≠ .done) :
    sendRequest dest .write index data tag s = s.after dest reply.outcome tag reply.data f := by
  rw [sendRequest_heard tag hi hh (.inr rfl) (fun h => nomatch h)]
  simp only [reduceCtorEq, if_false, targetOf_write hr ha]
  rw [admitFrame_of_update (f := f) (reply := reply) ?_ hn, hc, recordReply_request, State.after]
  simp only [executeRequest, request_op, opOf_opCode, holdBroken_request, brokenFor_heard, hb, request_index,
    request_data, hx, Bool.false_eq_true, if_false]

/-- A Write that an idle node hears and refuses (R27, R32, R33). -/
theorem sendRequest_write_refused {s : State} {dest : Dest} {index : Byte} {reg : Reg} {data : Word}
    {reason : Reason} (tag : BitVec 4) (hi : s.linkIdle) (hh : s.hears dest = true)
    (hb : s.brokenFor dest index = false) (hr : regAt index = some reg) (ha : reg.access ≠ .readOnly)
    (hw : writeRefusal s reg data = some reason) :
    sendRequest dest .write index data tag s = s.refusedAs dest index tag reason := by
  unfold State.refusedAs
  refine sendRequest_write (reply := ⟨.refused, reasonCode reason ++ index⟩) tag hi hh hb hr ha ?_ ?_
    (fun _ h => nomatch h)
  · simp only [executeWrite, map_st, begin_st, writeRefusal_heard, hw]
    rfl
  · rfl

/-- A Write that an idle node hears, accepts and performs by one update of the state (R27). -/
theorem sendRequest_write_accepted {s : State} {dest : Dest} {index : Byte} {reg : Reg} {data : Word}
    {f : State → State} {reply : Reply} (tag : BitVec 4) (hi : s.linkIdle) (hh : s.hears dest = true)
    (hb : s.brokenFor dest index = false) (hr : regAt index = some reg) (ha : reg.access ≠ .readOnly)
    (hw : writeRefusal s reg data = none)
    (hp : performWrite reg data ((begin (s.heard dest)).map endHold) =
      (((begin (s.heard dest)).map endHold).map f, reply))
    (hc : f (endHold (s.heard dest)) = endHold (f (s.heard dest))) (hn : reg ≠ .raise) :
    sendRequest dest .write index data tag s = s.after dest reply.outcome tag reply.data f := by
  refine sendRequest_write tag hi hh hb hr ha ?_ hc (fun h => absurd h hn)
  simp only [executeWrite, map_st, begin_st, writeRefusal_heard, hw, hp]

end Sys2Proof.Machine
end

section
/-! PROOFS. The engine's work on events disarms no source: said once for each operation, beside the frame that
Laws/Frame.lean gives it (R69, R73, R79). -/

namespace Sys2Proof.Machine

/-- Every source that is armed in `s` is armed in `t`. -/
def KeepsArmed (s t : State) : Prop := ∀ i : SourceId, (s.src i).armed = true → (t.src i).armed = true

theorem KeepsArmed.refl (s : State) : KeepsArmed s s := fun _ h => h

theorem KeepsArmed.trans {s t u : State} (h : KeepsArmed s t) (g : KeepsArmed t u) : KeepsArmed s u :=
  fun i hi => g i (h i hi)

/-- With the source table as it was, no source is disarmed. -/
theorem KeepsArmed.of_srcs {s t : State} (h : t.srcs = s.srcs) : KeepsArmed s t := fun i hi => by
  rw [State.src, h]
  exact hi

/-- A source put in place of another disarms none where it is armed or the other was not. -/
theorem keepsArmed_setSrc {s : State} {i : SourceId} {x : Source} (h : (s.src i).armed = true → x.armed = true) :
    KeepsArmed s (s.setSrc i x) := fun j hj => by
  rw [src_setSrc]
  split
  · next e => subst e; exact h hj
  · exact hj

theorem keepsArmed_takePosition (i : SourceId) (s : State) : KeepsArmed s (takePosition i s) :=
  keepsArmed_setSrc (i := i) (x := { s.src i with latch := some ⟨s.arb.nextPosition, s.tc.count⟩ }) fun h => h

theorem keepsArmed_joinPending (i : SourceId) (s : State) : KeepsArmed s (joinPending i s) :=
  keepsArmed_setSrc (i := i) (x := { s.src i with state := .pending, expired := false }) fun _ => rfl

theorem keepsArmed_selfMask (i : SourceId) (s : State) : KeepsArmed s (selfMask i s) := fun j hj => by
  rw [selfMask_eq]
  exact hj

theorem keepsArmed_writeRecord (k : RecordKind) (source : Option SourceId) (detail : Word) (w : Work) :
    KeepsArmed w.st (writeRecord k source detail w).st :=
  .of_srcs (writeRecord_srcs k source detail w)

theorem keepsArmed_applyReaction (i : SourceId) (w : Work) : KeepsArmed w.st (applyReaction i w).st :=
  .of_srcs (by rw [applyReaction_st])

theorem keepsArmed_enterLockdown (cause : BitVec 4) (source : Option SourceId) (second : BitVec 5) (w : Work) :
    KeepsArmed w.st (enterLockdown cause source second w).st :=
  .of_srcs (by rw [enterLockdown_st])

/-- The reaction at a first latch (R82, R115, step 1). -/
theorem keepsArmed_latchReaction (i : SourceId) (w : Work) :
    KeepsArmed w.st (if (w.st.src i).reactWhen = .atLatch then applyReaction i w else w).st := by
  split
  · exact keepsArmed_applyReaction i w
  · exact .refl _

theorem keepsArmed_normalLatch (i : SourceId) (detail : Word) (w : Work) :
    KeepsArmed w.st (normalLatch i detail w).st := by
  unfold normalLatch
  dsimp only
  refine KeepsArmed.trans ?_ (keepsArmed_writeRecord _ _ _ _)
  refine KeepsArmed.trans (keepsArmed_latchReaction i w) ?_
  generalize (if (w.st.src i).reactWhen = .atLatch then applyReaction i w else w) = v
  have hj : KeepsArmed v.st
      (joinPending i (takePosition i (v.st.setSrc i { v.st.src i with count := 1, detail := detail }))) := by
    refine KeepsArmed.trans (KeepsArmed.trans ?_ (keepsArmed_takePosition _ _)) (keepsArmed_joinPending _ _)
    exact keepsArmed_setSrc fun h => h
  split
  · exact hj.trans (keepsArmed_selfMask _ _)
  · exact hj

theorem keepsArmed_absorb (i : SourceId) (detail : Word) (partner : SourceId) (w : Work) :
    KeepsArmed w.st (absorb i detail partner w).st := by
  unfold absorb
  dsimp only
  refine KeepsArmed.trans ?_ (keepsArmed_writeRecord _ _ _ _)
  refine KeepsArmed.trans (keepsArmed_latchReaction i w) ?_
  exact KeepsArmed.trans (keepsArmed_setSrc fun _ => rfl) (keepsArmed_takePosition _ _)

theorem keepsArmed_pushCompound (first second : SourceId) (w : Work) :
    KeepsArmed w.st (pushCompound first second w).st := by
  unfold pushCompound
  dsimp only
  refine KeepsArmed.trans ?_ (keepsArmed_applyReaction _ _)
  refine KeepsArmed.trans ?_ (keepsArmed_writeRecord _ _ _ _)
  exact keepsArmed_setSrc (s := w.st) (i := compoundId)
    (x := { w.st.src compoundId with state := .serving, detail := compoundPair first second }) fun _ => rfl

theorem keepsArmed_firstLatch (i : SourceId) (detail : Word) (w : Work) :
    KeepsArmed w.st (firstLatch i detail w).st := by
  unfold firstLatch
  split
  · exact keepsArmed_normalLatch i detail w
  · unfold compoundLatch
    split
    · exact .refl _
    · dsimp only
      split
      · exact (keepsArmed_absorb _ _ _ _).trans (keepsArmed_pushCompound _ _ _)
      · exact (keepsArmed_absorb _ _ _ _).trans (keepsArmed_enterLockdown _ _ _ _)
  · exact keepsArmed_enterLockdown _ _ _ w

theorem keepsArmed_occur (i : SourceId) (detail : Word) (w : Work) : KeepsArmed w.st (occur i detail w).st := by
  unfold occur
  split
  · split
    · exact .refl _
    · exact keepsArmed_firstLatch i detail w
    · exact keepsArmed_setSrc fun h => h
    · exact keepsArmed_setSrc fun h => h
    · split
      · exact keepsArmed_setSrc fun h => h
      · exact .refl _
  · exact .refl _

theorem keepsArmed_claimCandidate (i : SourceId) (w : Work) : KeepsArmed w.st (claimCandidate i w).st := by
  unfold claimCandidate
  dsimp only
  refine KeepsArmed.trans ?_ (keepsArmed_writeRecord _ _ _ _)
  exact keepsArmed_setSrc (s := w.st) (i := i)
    (x := { w.st.src i with
      state := .serving, count := 0, repeatCount := 0, latch := none, overrun := false, expired := false })
    fun _ => rfl

theorem keepsArmed_announceCompound (w : Work) : KeepsArmed w.st (announceCompound w).st := by
  unfold announceCompound
  exact .of_srcs (by rw [writeRecord_srcs]; rfl)

theorem keepsArmed_releaseAbsorbed (s : State) : KeepsArmed s (releaseAbsorbed s) := by
  unfold releaseAbsorbed
  dsimp only
  split
  · exact keepsArmed_joinPending _ _
  · exact .refl _

theorem keepsArmed_relatch (i : SourceId) (s : State) : KeepsArmed s (relatch i s) := by
  unfold relatch
  refine KeepsArmed.trans (KeepsArmed.trans ?_ (keepsArmed_takePosition _ _)) (keepsArmed_joinPending _ _)
  exact keepsArmed_setSrc fun h => h

theorem keepsArmed_settleCompleted (i : SourceId) (s : State) : KeepsArmed s (settleCompleted i s) := by
  unfold settleCompleted
  split
  · exact KeepsArmed.trans (keepsArmed_setSrc fun _ => rfl) (keepsArmed_releaseAbsorbed _)
  · split
    · exact KeepsArmed.trans (keepsArmed_setSrc fun _ => rfl) (keepsArmed_relatch _ _)
    · exact keepsArmed_setSrc fun _ => rfl

theorem keepsArmed_completeTop (i : SourceId) (w : Work) : KeepsArmed w.st (completeTop i w).st := by
  unfold completeTop
  dsimp only
  refine KeepsArmed.trans ?_ (keepsArmed_settleCompleted _ _)
  exact keepsArmed_writeRecord _ _ _ (w.map popStack)

end Sys2Proof.Machine
end

section
/-! PROOFS. What no command takes from a sealed controller: the flag, the words and registers that the seal protects,
and the armed sources (R29, R37). The relation is given for the engine's work and for every step of a tick. -/

namespace Sys2Proof.Machine

/-! ## The relation -/

/-- The seal, where it is set in `s`, is set in `t`, and `t` agrees with `s` on what it protects (R29, R37). -/
structure ProtectionKept (s t : State) : Prop where
  flag : s.regs.sealed = true → t.regs.sealed = true
  same : s.SameProtected t

/-- The seal and what it protects are kept, and no source is disarmed. -/
structure SealKept (s t : State) : Prop where
  protection : ProtectionKept s t
  armed      : KeepsArmed s t

theorem sameProtected_trans {s t u : State} (h : s.SameProtected t) (g : t.SameProtected u) : s.SameProtected u where
  words := fun i =>
    ⟨(g.words i).1.trans (h.words i).1, (g.words i).2.1.trans (h.words i).2.1, (g.words i).2.2.trans (h.words i).2.2⟩
  sets := fun k => ⟨(g.sets k).1.trans (h.sets k).1, (g.sets k).2.trans (h.sets k).2⟩
  policy :=
    ⟨g.policy.1.trans h.policy.1, g.policy.2.1.trans h.policy.2.1, g.policy.2.2.trans h.policy.2.2⟩
  levels := ⟨g.levels.1.trans h.levels.1, g.levels.2.trans h.levels.2⟩

theorem ProtectionKept.trans {s t u : State} (h : ProtectionKept s t) (g : ProtectionKept t u) :
    ProtectionKept s u :=
  ⟨fun hs => g.flag (h.flag hs), sameProtected_trans h.same g.same⟩

theorem SealKept.trans {s t u : State} (h : SealKept s t) (g : SealKept t u) : SealKept s u :=
  ⟨h.protection.trans g.protection, h.armed.trans g.armed⟩

/-- The protection is kept where the register file, SAFE, RBCHECK and the words of every descriptor and of every
reaction set are. -/
theorem ProtectionKept.of_words {s t : State} (hr : t.regs = s.regs)
    (hw : ∀ i : SourceId, (t.src i).w0 = (s.src i).w0 ∧ (t.src i).w1 = (s.src i).w1 ∧ (t.src i).w2 = (s.src i).w2)
    (hk : ∀ k : SetId, (t.set k).wordA = (s.set k).wordA ∧ (t.set k).wordB = (s.set k).wordB)
    (hl : t.act.safe = s.act.safe ∧ t.act.rbcheck = s.act.rbcheck) : ProtectionKept s t where
  flag := fun h => by rw [hr]; exact h
  same := { words := hw, sets := hk, policy := by rw [hr]; exact ⟨rfl, rfl, rfl⟩, levels := hl }

/-- What the engine's work leaves as it was includes all that the seal protects. -/
theorem EngineFrame.protectionKept {s t : State} (h : EngineFrame s t) : ProtectionKept s t :=
  .of_words h.regs h.words h.sets (by rw [h.act]; exact ⟨rfl, rfl⟩)

/-- An update that leaves the register file, the source table, the reaction sets, SAFE and RBCHECK. -/
theorem SealKept.of_fields {s t : State} (hr : t.regs = s.regs) (ht : t.srcs.table = s.srcs.table)
    (hk : t.act.sets = s.act.sets) (hs : t.act.safe = s.act.safe) (hc : t.act.rbcheck = s.act.rbcheck) :
    SealKept s t := by
  have src (i : SourceId) : t.src i = s.src i := by rw [State.src, ht]; rfl
  have set (k : SetId) : t.set k = s.set k := by rw [State.set, hk]; rfl
  refine ⟨.of_words hr (fun i => ?_) (fun k => ?_) ⟨hs, hc⟩, fun i hi => ?_⟩
  · rw [src]; exact ⟨rfl, rfl, rfl⟩
  · rw [set]; exact ⟨rfl, rfl⟩
  · rw [src]; exact hi

theorem SealKept.refl (s : State) : SealKept s s := .of_fields rfl rfl rfl rfl rfl

/-- A fold whose every step keeps the seal keeps it. -/
theorem sealKept_foldl {α : Type} {f : Work → α → Work} (hf : ∀ v a, SealKept v.st (f v a).st) (l : List α)
    (w : Work) : SealKept w.st (l.foldl f w).st := by
  induction l generalizing w with
  | nil => exact .refl _
  | cons a l ih => exact (hf w a).trans (ih (f w a))

/-! ## The engine -/

theorem sealKept_setSrc {s : State} {i : SourceId} {x : Source} (h0 : x.w0 = (s.src i).w0)
    (h1 : x.w1 = (s.src i).w1) (h2 : x.w2 = (s.src i).w2) (ha : (s.src i).armed = true → x.armed = true) :
    SealKept s (s.setSrc i x) :=
  ⟨(frame_setSrc h0 h1 h2).protectionKept, keepsArmed_setSrc ha⟩

theorem sealKept_writeRecord (k : RecordKind) (source : Option SourceId) (detail : Word) (w : Work) :
    SealKept w.st (writeRecord k source detail w).st :=
  ⟨(frame_writeRecord k source detail w).protectionKept, keepsArmed_writeRecord k source detail w⟩

theorem sealKept_applyReaction (i : SourceId) (w : Work) : SealKept w.st (applyReaction i w).st :=
  ⟨(frame_applyReaction i w).protectionKept, keepsArmed_applyReaction i w⟩

theorem sealKept_enterLockdown (cause : BitVec 4) (source : Option SourceId) (second : BitVec 5) (w : Work) :
    SealKept w.st (enterLockdown cause source second w).st :=
  ⟨(frame_enterLockdown cause source second w).protectionKept, keepsArmed_enterLockdown cause source second w⟩

theorem sealKept_occur (i : SourceId) (detail : Word) (w : Work) : SealKept w.st (occur i detail w).st :=
  ⟨(frame_occur i detail w).protectionKept, keepsArmed_occur i detail w⟩

theorem sealKept_claimCandidate (i : SourceId) (w : Work) : SealKept w.st (claimCandidate i w).st :=
  ⟨(frame_claimCandidate i w).protectionKept, keepsArmed_claimCandidate i w⟩

theorem sealKept_announceCompound (w : Work) : SealKept w.st (announceCompound w).st :=
  ⟨(frame_announceCompound w).protectionKept, keepsArmed_announceCompound w⟩

theorem sealKept_completeTop (i : SourceId) (w : Work) : SealKept w.st (completeTop i w).st :=
  ⟨(frame_completeTop i w).protectionKept, keepsArmed_completeTop i w⟩

theorem sealKept_drain (w : Work) : SealKept w.st (drain w).st :=
  sealKept_foldl (f := fun v d => occurJournal d v) (fun v d => sealKept_occur journalId d v) w.derived
    { w with derived := [] }

theorem sealKept_occurAll (i : SourceId) (detail : Word) (w : Work) : SealKept w.st (occurAll i detail w).st :=
  (sealKept_occur i detail w).trans (sealKept_drain _)

theorem sealKept_endHappening (s : State) : SealKept s (endHappening s) := .of_fields rfl rfl rfl rfl rfl

theorem sealKept_finish (w : Work) : SealKept w.st (finish w) :=
  (sealKept_drain w).trans (sealKept_endHappening _)

/-! ## The steps of a tick -/

theorem sealKept_markHold (n : Byte) (s : State) : SealKept s (markHold n s) := by
  rw [markHold_eq]
  exact .of_fields rfl rfl rfl rfl rfl

theorem sealKept_compareReadback (s : State) : SealKept s (compareReadback s) := by
  unfold compareReadback
  dsimp only
  split
  · exact .of_fields rfl rfl rfl rfl rfl
  · refine SealKept.trans ?_ (sealKept_markHold _ _)
    exact .of_fields rfl rfl rfl rfl rfl

theorem sealKept_stepExternal (changed : BitVec 24) (w : Work) : SealKept w.st (stepExternal changed w).st := by
  refine sealKept_foldl (fun v k => ?_) _ w
  unfold scanLine
  split
  · exact sealKept_occurAll _ _ v
  · exact .refl _

theorem sealKept_stepReadback (w : Work) : SealKept w.st (stepReadback w).st := by
  unfold stepReadback
  dsimp only
  split
  · exact sealKept_compareReadback w.st
  · exact (sealKept_compareReadback w.st).trans (sealKept_occurAll mismatchId _ (w.map compareReadback))

theorem sealKept_setTopDeadline (d : Deadline) (s : State) : SealKept s (setTopDeadline d s) :=
  .of_fields rfl rfl rfl rfl rfl

theorem sealKept_expireService (i : SourceId) (w : Work) : SealKept w.st (expireService i w).st := by
  unfold expireService
  refine SealKept.trans ?_ (sealKept_occurAll _ _ _)
  refine SealKept.trans ?_ (sealKept_setTopDeadline _ _)
  exact sealKept_setSrc rfl rfl rfl fun h => h

theorem sealKept_expireNested (i : SourceId) (w : Work) : SealKept w.st (expireNested i w).st :=
  (sealKept_setTopDeadline .spent w.st).trans (sealKept_enterLockdown _ _ _ (w.map (setTopDeadline .spent)))

theorem sealKept_stepService (depth : Nat) (w : Work) : SealKept w.st (stepService depth w).st := by
  unfold stepService
  split
  · exact .refl _
  · split
    · exact .refl _
    · split
      · split
        · unfold expireTop
          split
          · exact sealKept_expireNested _ w
          · exact sealKept_expireService _ w
        · exact sealKept_setTopDeadline _ _
      · exact .refl _
      · exact .refl _

theorem sealKept_setClaimDeadline (i : SourceId) (d : Deadline) (s : State) : SealKept s (setClaimDeadline i d s) :=
  .of_fields rfl rfl rfl rfl rfl

theorem sealKept_expireClaim (i : SourceId) (w : Work) : SealKept w.st (expireClaim i w).st := by
  unfold expireClaim
  dsimp only
  refine SealKept.trans ?_ ((sealKept_occur _ _ _).trans (sealKept_drain _))
  have hm : SealKept w.st
      ((setClaimDeadline i .spent w.st).setSrc i { w.st.src i with expired := true }) :=
    (sealKept_setClaimDeadline i .spent w.st).trans (sealKept_setSrc rfl rfl rfl fun h => h)
  split
  · refine SealKept.trans ?_ (sealKept_applyReaction i _)
    exact hm
  · exact hm

theorem sealKept_visitEntry (w : Work) (i : SourceId) : SealKept w.st (visitEntry w i).st := by
  unfold visitEntry
  split
  · split
    · split
      · exact sealKept_expireClaim i w
      · exact sealKept_setClaimDeadline _ _ _
    · exact .refl _
    · exact .refl _
  · exact .refl _

theorem sealKept_stepClaims (atStart : List SourceId) (w : Work) : SealKept w.st (stepClaims atStart w).st :=
  sealKept_foldl sealKept_visitEntry _ w

theorem sealKept_expireWatchdog (w : Work) : SealKept w.st (expireWatchdog w).st :=
  SealKept.trans (t := stopWatchdog w.st) (.of_fields rfl rfl rfl rfl rfl)
    (sealKept_occurAll silenceId 0 (w.map stopWatchdog))

theorem sealKept_stepWatchdog (w : Work) : SealKept w.st (stepWatchdog w).st := by
  unfold stepWatchdog
  split
  · exact .refl _
  · split
    · exact sealKept_expireWatchdog w
    · exact .of_fields rfl rfl rfl rfl rfl

/-- A step of a tick that the happening may have abandoned keeps the seal if the step does. -/
theorem sealKept_ifLive {f : Work → Work} (hf : ∀ v, SealKept v.st (f v).st) {s : State} {w : Work}
    (h : SealKept s w.st) : SealKept s (ifLive f w).st := by
  unfold ifLive
  split
  · exact h.trans (hf w)
  · exact h

theorem sealKept_tickSteps (changed : BitVec 24) (w : Work) : SealKept w.st (tickSteps changed w).st := by
  unfold tickSteps
  dsimp only
  split
  · exact sealKept_ifLive sealKept_stepWatchdog (sealKept_ifLive (sealKept_stepClaims _)
      (sealKept_ifLive (sealKept_stepService _) (sealKept_ifLive sealKept_stepReadback
        (sealKept_stepExternal changed w))))
  · exact sealKept_compareReadback w.st

theorem sealKept_tickHappening (lines : BitVec 24) (readback : Word) (s : State) :
    SealKept s (tickHappening lines readback s) := by
  unfold tickHappening
  refine SealKept.trans ?_ ((sealKept_tickSteps _ _).trans (sealKept_finish _))
  exact .of_fields rfl rfl rfl rfl rfl

end Sys2Proof.Machine
end

section
/-! PROOFS. Register execution and the link under the seal: a sealed controller refuses every Write of what the seal
protects, and of the Writes that it accepts only a Reinit disarms a source (R29, R37, R48); then O45. -/

namespace Sys2Proof.Machine

/-! ## Outcomes of a command on a sealed controller -/

/-- What O45 says of the state that a Reinit leaves (R48, R56, R57). -/
structure Reinitialised (t : State) : Prop where
  cause    : t.mc.resetCause = .reinit
  mode     : t.mc.mode = .configuring
  claimrec : t.svc.claimrec = ⟨0, 0, 0, 0⟩
  unread   : t.jn.unread.length ≤ 1
  lost     : t.jn.lost = 0

/-- The protection is kept, and no source is disarmed unless by a Reinit. -/
structure SealOutcome (s t : State) : Prop where
  protection : ProtectionKept s t
  armed      : KeepsArmed s t ∨ Reinitialised t

theorem SealKept.outcome {s t : State} (h : SealKept s t) : SealOutcome s t := ⟨h.protection, .inl h.armed⟩

theorem SealOutcome.of_before {s t u : State} (h : SealKept s t) (g : SealOutcome t u) : SealOutcome s u :=
  ⟨h.protection.trans g.protection, g.armed.imp_left h.armed.trans⟩

theorem SealOutcome.trans_kept {s t u : State} (h : SealOutcome s t) (g : SealKept t u)
    (hr : Reinitialised t → Reinitialised u) : SealOutcome s u :=
  ⟨h.protection.trans g.protection, h.armed.imp (fun a => a.trans g.armed) hr⟩

/-- A state with the mode unit, the service unit and the journal of a Reinit's. -/
theorem Reinitialised.of_units {s t : State} (h : Reinitialised s) (hm : t.mc = s.mc) (hv : t.svc = s.svc)
    (hj : t.jn = s.jn) : Reinitialised t where
  cause := by rw [hm]; exact h.cause
  mode := by rw [hm]; exact h.mode
  claimrec := by rw [hv]; exact h.claimrec
  unread := by rw [hj]; exact h.unread
  lost := by rw [hj]; exact h.lost

/-- After a Reinit no occurrence is processed: the mode is Configuring (R39, R76). -/
theorem Reinitialised.not_live {w : Work} (h : Reinitialised w.st) : w.live = false := by
  rw [Work.live, h.mode]
  rfl

/-! ## The actions -/

/-- Recover puts every source into the state that its armed bit gives (R47). -/
theorem src_quietSources (s : State) (i : SourceId) :
    (quietSources s).src i =
      { (s.src i).cleared with state := if (s.src i).state = .disarmed then .disarmed else .quiet } := by
  change (s.srcs.table.map _)[i.val] = _
  rw [Vector.getElem_map]
  rfl

/-- Reinit disarms every source but COMPOUND and OVERRUN (R48, R55). -/
theorem src_disarmSources (s : State) (i : SourceId) :
    (disarmSources s).src i =
      { (s.src i).cleared with state := if i = compoundId ∨ i = overrunId then .quiet else .disarmed } := by
  change (Vector.ofFn _)[i.val] = _
  rw [Vector.getElem_ofFn]

@[simp] theorem disarmSources_regs (s : State) : (disarmSources s).regs = s.regs := by simp only [disarmSources]
@[simp] theorem disarmSources_act (s : State) : (disarmSources s).act = s.act := by simp only [disarmSources]

/-- The removal of all reactions leaves the words of every set (R47, R56). -/
theorem set_clearReactions (s : State) (k : SetId) :
    (clearReactions s).set k = { s.set k with binding := none } := by
  change (s.act.sets.map _)[k.val] = _
  rw [Vector.getElem_map]
  rfl

theorem sealKept_quietSources (s : State) : SealKept s (quietSources s) where
  protection := .of_words rfl (fun i => by rw [src_quietSources]; exact ⟨rfl, rfl, rfl⟩) (fun _ => ⟨rfl, rfl⟩)
    ⟨rfl, rfl⟩
  armed := fun i h => by
    rw [src_quietSources]
    simpa [Source.armed] using h

theorem protectionKept_disarmSources (s : State) : ProtectionKept s (disarmSources s) := by
  refine .of_words (disarmSources_regs s) (fun i => ?_) (fun k => ?_) ?_
  · rw [src_disarmSources]; exact ⟨rfl, rfl, rfl⟩
  · rw [State.set, disarmSources_act]; exact ⟨rfl, rfl⟩
  · rw [disarmSources_act]; exact ⟨rfl, rfl⟩

theorem sealKept_clearReactions (s : State) : SealKept s (clearReactions s) :=
  ⟨.of_words rfl (fun _ => ⟨rfl, rfl, rfl⟩) (fun k => by rw [set_clearReactions]; exact ⟨rfl, rfl⟩) ⟨rfl, rfl⟩,
    .of_srcs rfl⟩

theorem sealKept_dropSet (k : SetId) (s : State) : SealKept s (dropSet k s) := by
  refine SealKept.trans (t := s.putSet k { s.set k with binding := none }) ?_ (.of_fields rfl rfl rfl rfl rfl)
  refine ⟨.of_words rfl (fun _ => ⟨rfl, rfl, rfl⟩) (fun j => ?_) ⟨rfl, rfl⟩, .of_srcs rfl⟩
  rw [set_putSet]
  split
  · next h => subst h; exact ⟨rfl, rfl⟩
  · exact ⟨rfl, rfl⟩

theorem sealKept_doStart (w : Work) : SealKept w.st (doStart w).st := by
  refine SealKept.trans ?_ (sealKept_writeRecord _ _ _ _)
  exact .of_fields rfl rfl rfl rfl rfl

theorem sealKept_doStop (w : Work) : SealKept w.st (doStop w).st := by
  refine SealKept.trans ?_ (sealKept_writeRecord _ _ _ _)
  exact .of_fields rfl rfl rfl rfl rfl

theorem sealKept_doRecover (w : Work) : SealKept w.st (doRecover w).st := by
  refine SealKept.trans ?_ (sealKept_writeRecord _ _ _ _)
  have he : SealKept w.st (clearEvents w.st) := .of_fields rfl rfl rfl rfl rfl
  refine ((he.trans (sealKept_quietSources _)).trans (sealKept_clearReactions _)).trans ?_
  exact .of_fields rfl rfl rfl rfl rfl

theorem sealKept_doSeal (w : Work) : SealKept w.st (doSeal w).st where
  protection :=
    { flag := fun _ => rfl
      same := ⟨fun _ => ⟨rfl, rfl, rfl⟩, fun _ => ⟨rfl, rfl⟩, ⟨rfl, rfl, rfl⟩, ⟨rfl, rfl⟩⟩ }
  armed := .of_srcs rfl

theorem sealKept_doForceLockdown (w : Work) : SealKept w.st (doForceLockdown w).st := by
  unfold doForceLockdown
  split
  · exact .refl _
  · exact sealKept_enterLockdown _ _ _ w

theorem sealKept_takeRecord (s : State) : SealKept s (takeRecord s) := by
  unfold takeRecord
  split <;> exact .of_fields rfl rfl rfl rfl rfl

/-- The update of a Reinit before its Mode record is written (R48). -/
def reinitialise (s : State) : State :=
  setMode .configuring (clearRecords (clearMismatch (clearReactions (disarmSources (clearEvents s)))))

theorem doReinit_eq (w : Work) : doReinit w = writeModeRecord w.st.mc.mode (w.map reinitialise) := rfl

theorem protectionKept_reinitialise (s : State) : ProtectionKept s (reinitialise s) := by
  have he : SealKept s (clearEvents s) := .of_fields rfl rfl rfl rfl rfl
  have hr (x : State) : SealKept x (setMode .configuring (clearRecords (clearMismatch (clearReactions x)))) := by
    refine (sealKept_clearReactions x).trans ?_
    exact .of_fields rfl rfl rfl rfl rfl
  exact (he.protection.trans (protectionKept_disarmSources _)).trans (hr _).protection

/-- A record that joins an empty journal with no lost record leaves it with at most one, and none lost (R155). -/
theorem Reinitialised.wrote {s : State} (h : Reinitialised s) (he : s.jn.unread = []) (k : RecordKind)
    (source : Option SourceId) (detail : Word) : Reinitialised (s.wrote k source detail) := by
  unfold State.wrote
  simp only [he]
  split
  · exact ⟨h.cause, h.mode, h.claimrec, Nat.le_refl 1, h.lost⟩
  · exact h

/-- A Reinit leaves its state, and keeps what the seal protects (R48). -/
theorem sealOutcome_doReinit (w : Work) : SealOutcome w.st (doReinit w).st where
  protection :=
    (protectionKept_reinitialise w.st).trans (sealKept_writeRecord .mode none _ (w.map reinitialise)).protection
  armed := .inr <| by
    have hr : Reinitialised (reinitialise w.st) := ⟨rfl, rfl, rfl, Nat.zero_le 1, rfl⟩
    have hc : (w.map reinitialise).st.calm 1 := .inl (Nat.le_of_ble_eq_true rfl)
    rw [doReinit_eq, writeModeRecord, writeRecord_calm _ _ _ _ hc]
    exact hr.wrote rfl _ _ _

theorem sealOutcome_doAction (code : Word) (w : Work) : SealOutcome w.st (doAction code w).1.st := by
  unfold doAction
  split
  · exact (sealKept_doStart w).outcome
  split
  · exact (sealKept_doStop w).outcome
  split
  · exact (sealKept_doRecover w).outcome
  split
  · exact (sealKept_doSeal w).outcome
  split
  · exact (sealKept_doForceLockdown w).outcome
  split
  · exact sealOutcome_doReinit w
  split
  · exact (sealKept_takeRecord w.st).outcome
  split
  · refine SealKept.outcome ?_
    exact .of_fields rfl rfl rfl rfl rfl
  · exact (SealKept.refl w.st).outcome

/-! ## Register execution -/

theorem sealKept_armSource (i : SourceId) (s : State) : SealKept s (armSource i s) := by
  unfold armSource
  split
  · exact .refl s
  · exact sealKept_setSrc rfl rfl rfl fun _ => rfl

theorem sealKept_doRelease (n : Nat) (w : Work) : SealKept w.st (doRelease n w).st := by
  unfold doRelease
  dsimp only
  split
  · exact (sealKept_dropSet _ w.st).trans (sealKept_writeRecord _ _ _ (w.map (dropSet (setOf n))))
  · exact .refl _

/-- A write of a register that the seal does not protect (R27, R29). -/
theorem sealKept_putReg {r : Reg} (h : sealProtected r = false) (data : Word) (s : State) :
    SealKept s (putReg r data s) := by
  cases r with
  | desc _ _ | react _ _ | zones | policy | safe | silwin | rbcheck | disarm => cases h
  | _ => exact .of_fields rfl rfl rfl rfl rfl

/-- An accepted Write of a register that the seal does not protect (R27, R29). -/
theorem sealOutcome_performWrite {r : Reg} (h : sealProtected r = false) (data : Word) (w : Work) :
    SealOutcome w.st (performWrite r data w).1.st := by
  cases r with
  | action => exact sealOutcome_doAction data w
  | arm => exact (sealKept_armSource (namedSource data) w.st).outcome
  | disarm => cases h
  | complete => exact (sealKept_completeTop (namedSource data) w).outcome
  | raise => exact (SealKept.refl w.st).outcome
  | release => exact (sealKept_doRelease data.toNat w).outcome
  | _ => exact (sealKept_putReg h data w.st).outcome

/-- A sealed controller accepts no Write that the seal forbids (R29). -/
theorem sealProtected_of_accepted {s : State} {r : Reg} {data : Word} (hs : s.regs.sealed = true)
    (h : writeRefusal s r data = none) : sealProtected r = false := by
  unfold writeRefusal at h
  split at h
  · cases h
  · cases hp : sealProtected r with
    | false => rfl
    | true => simp [hs, hp] at h

theorem sealKept_refuse (reason : Reason) (index : Byte) (w : Work) : SealKept w.st (refuse reason index w).1.st where
  protection :=
    { flag := fun h => h
      same := ⟨fun _ => ⟨rfl, rfl, rfl⟩, fun _ => ⟨rfl, rfl⟩, ⟨rfl, rfl, rfl⟩, ⟨rfl, rfl⟩⟩ }
  armed := .of_srcs rfl

theorem sealOutcome_executeWrite {w : Work} (hs : w.st.regs.sealed = true) (index : Byte) (r : Reg) (data : Word) :
    SealOutcome w.st (executeWrite index r data w).1.st := by
  unfold executeWrite
  split
  · exact (sealKept_refuse _ index w).outcome
  · next h => exact sealOutcome_performWrite (sealProtected_of_accepted hs h) data w

theorem sealKept_executeClaim (index : Byte) (w : Work) : SealKept w.st (executeClaim index w).1.st := by
  unfold executeClaim
  split
  · exact sealKept_refuse .mode index w
  split
  · exact sealKept_announceCompound w
  split
  · exact sealKept_claimCandidate _ w
  · exact .refl _

theorem sealKept_executeRead (index : Byte) (r : Reg) (w : Work) : SealKept w.st (executeRead index r w).1.st := by
  cases r with
  | claim => exact sealKept_executeClaim index w
  | _ => exact .of_fields rfl rfl rfl rfl rfl

theorem sealOutcome_executeRequest {w : Work} (hs : w.st.regs.sealed = true) (s0 : State) (r : Request) (reg : Reg) :
    SealOutcome w.st (executeRequest s0 r reg w).1.st := by
  unfold executeRequest
  split
  · exact (SealKept.refl w.st).outcome
  · exact (sealKept_executeRead r.index reg w).outcome
  · refine SealKept.outcome ?_
    exact .of_fields rfl rfl rfl rfl rfl
  · split
    · exact (SealKept.refl w.st).outcome
    · exact sealOutcome_executeWrite hs r.index reg r.data

/-! ## Frames -/

/-- The record of a frame changes the link unit and the watchdog only (R21, R136). -/
theorem recordReply_eq (r : Request) (reply : Reply) (s : State) :
    recordReply r reply s = { s with link := (recordReply r reply s).link, dl := (recordReply r reply s).dl } := by
  unfold recordReply
  dsimp only
  split <;> rfl

theorem SealOutcome.recordReply {s t : State} (h : SealOutcome s t) (r : Request) (reply : Reply) :
    SealOutcome s (recordReply r reply t) := by
  rw [recordReply_eq]
  exact h.trans_kept (.of_fields rfl rfl rfl rfl rfl) fun hr => hr.of_units rfl rfl rfl

theorem SealOutcome.raiseOccurrence {s : State} {w : Work} (h : SealOutcome s w.st) (r : Request) (reg : Reg)
    (reply : Reply) : SealOutcome s (raiseOccurrence r reg reply w).st := by
  unfold Machine.raiseOccurrence
  split
  · exact h.trans_kept (sealKept_occur _ _ w) fun hr => by rw [occur_of_not_live hr.not_live]; exact hr
  · exact h

theorem SealOutcome.finish {s : State} {w : Work} (h : SealOutcome s w.st) : SealOutcome s (finish w) := by
  refine h.trans_kept (sealKept_finish w) fun hr => ?_
  unfold Machine.finish
  rw [drain_st_of_not_live hr.not_live]
  exact hr.of_units rfl rfl rfl

theorem sealOutcome_admitFrame {s : State} (hs : s.regs.sealed = true) (r : Request) (reg : Reg) :
    SealOutcome s (admitFrame r reg s) := by
  rw [admitFrame_eq]
  refine SealOutcome.finish (SealOutcome.raiseOccurrence (SealOutcome.recordReply ?_ _ _) _ _ _)
  exact .of_before (t := endHold s) (.of_fields rfl rfl rfl rfl rfl)
    (sealOutcome_executeRequest (w := (begin s).map endHold) hs s r reg)

theorem sealKept_rejectFrame (cause : FrameOutcome) (tag : BitVec 4) (index : Byte) (s : State) :
    SealKept s (rejectFrame cause tag index s) := by
  refine SealKept.trans ?_ (sealKept_finish _)
  refine SealKept.trans ?_ (sealKept_occur _ _ _)
  exact .of_fields rfl rfl rfl rfl rfl

theorem sealOutcome_completeFrame {s : State} (hs : s.regs.sealed = true) (lengthOk : Bool) (f : Frame48) :
    SealOutcome s (completeFrame lengthOk f s) := by
  unfold completeFrame
  dsimp only
  split
  · exact (sealKept_rejectFrame _ _ _ s).outcome
  split
  · exact (sealKept_rejectFrame _ _ _ s).outcome
  split
  · exact (sealKept_rejectFrame _ _ _ s).outcome
  split
  · exact (SealKept.refl s).outcome
  split
  · exact sealOutcome_admitFrame hs _ _
  split
  · exact (sealKept_rejectFrame _ _ _ s).outcome
  · exact sealOutcome_admitFrame hs _ _

/-! ## Link events and ticks -/

/-- An update of the link unit only. -/
theorem SealKept.of_link {s t : State} (h : t = { s with link := t.link }) : SealKept s t := by
  rw [h]
  exact .of_fields rfl rfl rfl rfl rfl

/-- The fall of LSEL changes the link unit only (R1). -/
theorem lselFall_eq (s : State) : lselFall s = { s with link := (lselFall s).link } := by
  unfold lselFall
  dsimp only
  split <;> rfl

/-- The edges of a frame change the link unit only (R2, R17). -/
theorem receiveRest_eq (m : Nat) (f : Frame48) (s : State) :
    receiveRest m f s = { s with link := (receiveRest m f s).link } := by
  unfold receiveRest
  dsimp only
  split_ifs <;> rfl

/-- A rising edge of LCK changes the link unit only (R2, R17). -/
theorem lckRise_eq (ldi : Bool) (s : State) : lckRise ldi s = { s with link := (lckRise ldi s).link } := by
  unfold lckRise
  dsimp only
  split_ifs <;> rfl

/-- A falling edge of LCK changes the link unit only (R18). -/
theorem lckFall_eq (s : State) : lckFall s = { s with link := (lckFall s).link } := by
  unfold lckFall
  split_ifs <;> rfl

theorem sealOutcome_lselRise {s : State} (hs : s.regs.sealed = true) : SealOutcome s (lselRise s) := by
  unfold lselRise
  dsimp only
  split
  · exact (SealKept.of_link rfl).outcome
  · exact (SealKept.of_link rfl).outcome
  · split
    · exact (SealKept.of_link rfl).outcome
    · exact (SealKept.of_link rfl).outcome
  · split
    · exact (SealKept.of_link rfl).outcome
    · refine SealOutcome.of_before ?_ (sealOutcome_completeFrame ?_ _ _)
      · exact .of_link rfl
      · exact hs

theorem sealOutcome_hostFrame {s : State} (hs : s.regs.sealed = true) (m : Nat) (f : Frame48) :
    SealOutcome s (hostFrame m f s) := by
  have h : SealKept s (receiveRest m f (lselFall s)) :=
    (SealKept.of_link (lselFall_eq s)).trans (.of_link (receiveRest_eq m f (lselFall s)))
  exact .of_before h (sealOutcome_lselRise (h.protection.flag hs))

theorem sealKept_idleTimeout (s : State) : SealKept s (idleTimeout s) := by
  unfold idleTimeout
  split
  · exact SealKept.trans (t := closeFrame .spent s) (.of_fields rfl rfl rfl rfl rfl) (sealKept_rejectFrame _ _ _ _)
  · exact .refl s

theorem sealKept_endInterval (s : State) : SealKept s (endInterval s) := by
  unfold endInterval
  dsimp only
  split <;> exact .of_fields rfl rfl rfl rfl rfl

theorem sealKept_countInterval (s : State) : SealKept s (countInterval s) := by
  unfold countInterval
  split
  · exact .refl s
  · split
    · exact sealKept_endInterval s
    · exact .of_fields rfl rfl rfl rfl rfl

theorem sealKept_countIdle (s : State) : SealKept s (countIdle s) := by
  unfold countIdle
  split
  · dsimp only
    split
    · refine SealKept.trans ?_ (sealKept_idleTimeout _)
      exact .of_fields rfl rfl rfl rfl rfl
    · exact .of_fields rfl rfl rfl rfl rfl
  · exact .refl s

theorem sealKept_scanTick (lines : BitVec 24) (readback : Word) (s : State) :
    SealKept s (scanTick lines readback s) := by
  unfold scanTick
  split
  · exact .refl s
  · exact ((sealKept_tickHappening lines readback s).trans (sealKept_countInterval _)).trans (sealKept_countIdle _)

/-! ## Every command -/

/-- The release of a hard reset (R49, R52, R53). -/
theorem sealKept_hardResetRelease (ida idb : BitVec 2) (s : State) :
    ∃ t, exec (.hardResetRelease ida idb) s = .next t ∧ SealKept s t := by
  refine ⟨_, rfl, ?_⟩
  split
  · exact .of_fields rfl rfl rfl rfl rfl
  · exact .refl s

/-- The end of the reset interval (R52). -/
theorem sealKept_resetIntervalEnd (s : State) : ∃ t, exec .resetIntervalEnd s = .next t ∧ SealKept s t := by
  refine ⟨_, rfl, ?_⟩
  split
  · exact .refl s
  · exact sealKept_endInterval s

/-- The expiry of an ordinary top alone (R133). -/
theorem sealKept_serviceExpiry (s : State) :
    ∃ t, exec .serviceDeadlineExpiry s = .next t ∧ SealKept s t := by
  refine ⟨_, rfl, ?_⟩
  split
  · next i _ =>
    split
    · exact .refl s
    · exact (sealKept_expireService i (begin s)).trans (sealKept_finish _)
  · exact .refl s

/-- The expiry of an OVERRUN or COMPOUND top alone (R135). -/
theorem sealKept_nestedExpiry (s : State) : ∃ t, exec .nestedOverrun s = .next t ∧ SealKept s t := by
  refine ⟨_, rfl, ?_⟩
  split
  · next i _ =>
    split
    · exact (sealKept_expireNested i (begin s)).trans (sealKept_finish _)
    · exact .refl s
  · exact .refl s

/-- The expiry of a claim deadline alone (R129). -/
theorem sealKept_claimExpiry (source : BitVec 5) (s : State) :
    ∃ t, exec (.claimDeadlineExpiry source) s = .next t ∧ SealKept s t := by
  refine ⟨_, rfl, ?_⟩
  split
  · exact (sealKept_expireClaim _ (begin s)).trans (sealKept_finish _)
  · exact .refl s

/-- The expiry of the watchdog alone (R137). -/
theorem sealKept_watchdogExpiry (s : State) : ∃ t, exec .watchdogExpiry s = .next t ∧ SealKept s t := by
  refine ⟨_, rfl, ?_⟩
  split
  · exact (sealKept_expireWatchdog (begin s)).trans (sealKept_finish _)
  · exact .refl s

/-- A command other than a hard reset keeps the seal and what it protects, and disarms a source only by a Reinit
(R29, R37, R48). -/
theorem sealOutcome_exec {s : State} {c : Instr} (hs : s.regs.sealed = true) (hc : isHardReset c = false) :
    ∃ t, exec c s = .next t ∧ SealOutcome s t := by
  have of_kept {c : Instr} (h : ∃ t, exec c s = .next t ∧ SealKept s t) : ∃ t, exec c s = .next t ∧ SealOutcome s t :=
    h.imp fun _ h => h.imp_right SealKept.outcome
  cases hf : frameOf c with
  | some r => exact ⟨_, exec_of_frameOf hf s, sealOutcome_hostFrame hs 48 r.frame⟩
  | none =>
    cases c with
    | powerOnReset | pinReset => cases hc
    | hardResetRelease ida idb => exact of_kept (sealKept_hardResetRelease ida idb s)
    | resetIntervalEnd => exact of_kept (sealKept_resetIntervalEnd s)
    | lselFall => exact of_kept ⟨_, rfl, .of_link (lselFall_eq s)⟩
    | lselRise => exact ⟨_, rfl, sealOutcome_lselRise hs⟩
    | nullFrame => exact ⟨_, rfl, sealOutcome_hostFrame hs 0 0⟩
    | frameRejection m f => exact ⟨_, rfl, sealOutcome_hostFrame hs m f⟩
    | idleTimeout => exact of_kept ⟨_, rfl, sealKept_idleTimeout s⟩
    | lckRisingEdge ldi => exact of_kept ⟨_, rfl, .of_link (lckRise_eq ldi s)⟩
    | lckFallingEdge => exact of_kept ⟨_, rfl, .of_link (lckFall_eq s)⟩
    | scanTick lines readback => exact of_kept ⟨_, rfl, sealKept_scanTick lines readback s⟩
    | serviceDeadlineExpiry => exact of_kept (sealKept_serviceExpiry s)
    | nestedOverrun => exact of_kept (sealKept_nestedExpiry s)
    | claimDeadlineExpiry source => exact of_kept (sealKept_claimExpiry source s)
    | watchdogExpiry => exact of_kept (sealKept_watchdogExpiry s)
    | _ => cases hf

/-! ## The Seal action -/

/-- MODE shows the seal in bit 4 (R37, R38). -/
theorem modeWord_sealBit (s : State) : (readReg s .mode).getLsbD 4 = s.regs.sealed := by
  unfold readReg State.modeWord
  rw [BitVec.getLsbD_append, BitVec.getLsbD_append, BitVec.getLsbD_append]
  simp

/-- Seal passes its checks outside Lockdown, and fails the Mode check in it (R28). -/
theorem writeRefusal_seal (s : State) :
    writeRefusal s .action 4 = if s.mc.mode = .lockdown then some .mode else none := by
  cases h : s.mc.mode <;> simp [writeRefusal, modeRefuses, sealProtected, specificRefusal, h]

/-- An accepted Seal sets the flag and changes nothing else (R37). -/
theorem exec_seal_accepted {s : State} {dest : Dest} (tag : BitVec 4) (hi : s.linkIdle) (hh : s.hears dest = true)
    (hb : s.brokenFor dest 0x02 = false) (hm : s.mc.mode ≠ .lockdown) :
    exec (.sealNode dest tag) s = .next (s.after dest .done tag 0 fun x =>
      { x with regs := { x.regs with sealed := true } }) := by
  refine congrArg Host.Outcome.next ?_
  exact sendRequest_write_accepted (reg := .action) (reply := ⟨.done, 0⟩) tag hi hh hb rfl (by decide)
    (by rw [writeRefusal_seal, if_neg hm]) rfl rfl (by decide)

/-- A Seal in Lockdown is refused as Mode (R28). -/
theorem exec_seal_refused {s : State} {dest : Dest} (tag : BitVec 4) (hi : s.linkIdle) (hh : s.hears dest = true)
    (hb : s.brokenFor dest 0x02 = false) (hm : s.mc.mode = .lockdown) :
    exec (.sealNode dest tag) s = .next (s.refusedAs dest 0x02 tag .mode) := by
  refine congrArg Host.Outcome.next ?_
  exact sendRequest_write_refused (reg := .action) tag hi hh hb rfl (by decide)
    (by rw [writeRefusal_seal, if_pos hm])

/-- A hard reset clears the seal (R37, R55). -/
theorem exec_hardReset_unseals {c : Instr} (hc : isHardReset c = true) (s : State) :
    ∃ t, exec c s = .next t ∧ t.regs.sealed = false := by
  cases c with
  | powerOnReset | pinReset => exact ⟨_, rfl, rfl⟩
  | _ => cases hc

/-- Settles O45: the accepted and the refused Seal by the frame rules of an idle link, the rest by the step lemma
`sealOutcome_exec`. -/
theorem sealFixesTheConfiguration : Obligations.SealFixesTheConfiguration := by
  unfold Obligations.SealFixesTheConfiguration
  refine ⟨fun s dest tag hi hh hb => ⟨exec_seal_accepted tag hi hh hb, exec_seal_refused tag hi hh hb⟩,
    modeWord_sealBit, fun s c hc => exec_hardReset_unseals hc s, fun s t c hs hc h => ?_⟩
  obtain ⟨u, hu, ⟨hp, ha⟩⟩ := sealOutcome_exec hs hc
  obtain rfl : u = t := Host.Outcome.next.inj (hu.symm.trans h)
  exact ⟨hp.flag hs, hp.same, ha.imp_right fun r => ⟨r.cause, r.mode, r.claimrec, r.unread, r.lost⟩⟩

end Sys2Proof.Machine
end

section
/-! PROOFS. Recover and Reinit: the two actions that leave Lockdown. Each is one update of the state and its Mode
record. The mode is not Running before it nor after it, so that record calls for no JOURNAL occurrence, and O43 and
O44 hold whatever the journal holds (R47, R48, R156). -/

namespace Sys2Proof.Machine

/-! ## Records outside Running -/

/-- The saturating increment of a byte, in the terms of the statements (R156). -/
theorem satInc_byte (b : Byte) : satInc b = if b = 255 then 255 else b + 1 := by
  unfold satInc
  exact ite_congr rfl (fun h => h) (fun _ => rfl)

/-- A record lost outside Running calls for no JOURNAL occurrence (R156). -/
theorem loseRecord_of_not_live {w : Work} (h : w.live = false) :
    loseRecord w = w.map fun s => { s with jn := { s.jn with
      lost := if s.jn.lost = 255 then 255 else s.jn.lost + 1 } } := by
  simp only [loseRecord, h, satInc_byte, Bool.and_false, Bool.false_eq_true, if_false]
  rfl

/-- A record outside Running is written as `wrote` says, also where the journal is full and JOURNAL armed (R155,
R156). -/
theorem writeRecord_of_not_live (k : RecordKind) (source : Option SourceId) (detail : Word) {w : Work}
    (h : w.live = false) : writeRecord k source detail w = w.map fun s => s.wrote k source detail := by
  have hl (l : List Words4) : (w.map (setUnread l)).live = false := h
  unfold writeRecord joinJournal
  simp only [loseRecord_of_not_live h, loseRecord_of_not_live (hl _)]
  simp only [State.wrote, Work.map]
  split
  · -- admitted: room in the journal, then the overflow policy
    split
    · rfl
    split
    · rfl
    split <;> rfl
  · rfl

/-- A record neither looks at the hold nor changes it (R35, R151). -/
theorem wrote_endHold (k : RecordKind) (source : Option SourceId) (detail : Word) (s : State) :
    (endHold s).wrote k source detail = endHold (s.wrote k source detail) := by
  unfold State.wrote
  simp only [apply_ite endHold]
  rfl

/-! ## An action that leaves the mode Configuring -/

/-- The Mode record of a change to Configuring from another mode than Running: its detail word tells Lockdown from
Configuring (R45). -/
theorem writeModeRecord_configuring {old : Mode} {w : Work} (ho : old ≠ .running)
    (hm : w.st.mc.mode = .configuring) :
    writeModeRecord old w = writeRecord .mode none (if old = .lockdown then 0x0200 else 0) w := by
  rw [writeModeRecord, hm]
  cases old with
  | configuring | lockdown => rfl
  | running => exact absurd rfl ho

/-- An action that an idle node hears and accepts, and that is one update of the state into Configuring and a Mode
record (R27, R45). -/
theorem sendAction_recorded {s : State} {dest : Dest} {code detail : Word} {f : State → State} (tag : BitVec 4)
    (hi : s.linkIdle) (hh : s.hears dest = true) (hb : s.brokenFor dest 0x02 = false)
    (hw : writeRefusal s .action code = none)
    (hp : performWrite .action code ((begin (s.heard dest)).map endHold) =
      doneZero (writeRecord .mode none detail (((begin (s.heard dest)).map endHold).map f)))
    (hm : ∀ x, (f x).mc.mode = .configuring) (hc : ∀ x, f (endHold x) = endHold (f x)) :
    sendAction dest code tag s = s.after dest .done tag 0 fun x => (f x).wrote .mode none detail := by
  have hl (w : Work) : (w.map f).live = false := by
    rw [Work.live, map_st, hm]
    rfl
  refine sendRequest_write_accepted (reg := .action) (reply := ⟨.done, 0⟩) tag hi hh hb rfl (by decide) hw ?_ ?_
    (by decide)
  · rw [hp, writeRecord_of_not_live _ _ _ (hl _)]
    rfl
  · rw [hc, wrote_endHold]

/-- An action that an idle node hears and refuses (R28, R30). -/
theorem sendAction_refused {s : State} {dest : Dest} {code : Word} {reason : Reason} (tag : BitVec 4)
    (hi : s.linkIdle) (hh : s.hears dest = true) (hb : s.brokenFor dest 0x02 = false)
    (hw : writeRefusal s .action code = some reason) :
    sendAction dest code tag s = s.refusedAs dest 0x02 tag reason :=
  sendRequest_write_refused (reg := .action) tag hi hh hb rfl (by decide) hw

/-! ## Recover -/

/-- The checks of a Recover: the mode, then cause-seen (R28, R30). -/
theorem writeRefusal_recover (s : State) :
    writeRefusal s .action 3 =
      if s.mc.mode ≠ .lockdown then some .mode
      else if s.mc.causeSeen = false then some .causeUnseen
      else none := by
  cases hm : s.mc.mode <;> simp [writeRefusal, modeRefuses, sealProtected, specificRefusal, hm]

/-- The update of a Recover before its Mode record is written (R47). -/
def recoverEvents (s : State) : State :=
  setMode .configuring (clearMismatch (clearReactions (quietSources (clearEvents s))))

theorem doRecover_eq (w : Work) : doRecover w = writeRecord .mode none 0x0200 (w.map recoverEvents) :=
  writeModeRecord_configuring (by decide) rfl

/-- An accepted Recover (R47). -/
theorem exec_recover_accepted {s : State} {dest : Dest} (tag : BitVec 4) (hi : s.linkIdle)
    (hh : s.hears dest = true) (hb : s.brokenFor dest 0x02 = false) (hm : s.mc.mode = .lockdown)
    (hc : s.mc.causeSeen = true) :
    exec (.recover dest tag) s =
      .next (s.after dest .done tag 0 fun x => (recoverEvents x).wrote .mode none 0x0200) :=
  congrArg Host.Outcome.next <| sendAction_recorded tag hi hh hb
    (by rw [writeRefusal_recover, if_neg (not_not_intro hm), if_neg (by simp [hc])])
    (congrArg doneZero (doRecover_eq _)) (fun _ => rfl) (fun _ => rfl)

/-- Settles O43: the accepted Recover is `recoverEvents` with its record, and the checks of `writeRefusal_recover`
refuse the others. -/
theorem recoverClearsEventsKeepsEvidence : Obligations.RecoverClearsEventsKeepsEvidence := by
  unfold Obligations.RecoverClearsEventsKeepsEvidence
  refine fun s dest tag hi hh hb => ⟨fun hm hc => ?accepted, fun hm hc => ?unseen, fun hm => ?mode⟩
  case accepted => exact exec_recover_accepted tag hi hh hb hm hc
  case unseen =>
    exact congrArg Host.Outcome.next <| sendAction_refused tag hi hh hb
      (by rw [writeRefusal_recover, if_neg (not_not_intro hm), if_pos hc])
  case mode =>
    exact congrArg Host.Outcome.next <| sendAction_refused tag hi hh hb
      (by rw [writeRefusal_recover, if_pos hm])

/-! ## Reinit -/

/-- The checks of a Reinit: refused as Mode in Running, and in Lockdown until the cause has been seen (R28, R30). -/
theorem writeRefusal_reinit (s : State) :
    writeRefusal s .action 6 =
      if s.mc.mode = .running then some .mode
      else if s.mc.mode = .lockdown ∧ s.mc.causeSeen = false then some .causeUnseen
      else none := by
  cases hm : s.mc.mode <;> simp [writeRefusal, modeRefuses, sealProtected, specificRefusal, hm]

/-- An accepted Reinit (R48). -/
theorem exec_reinit_accepted {s : State} {dest : Dest} (tag : BitVec 4) (hi : s.linkIdle)
    (hh : s.hears dest = true) (hb : s.brokenFor dest 0x02 = false) (hr : s.mc.mode ≠ .running)
    (hw : writeRefusal s .action 6 = none) :
    exec (.reinit dest tag) s = .next (s.after dest .done tag 0 fun x =>
      (reinitialise x).wrote .mode none (if s.mc.mode = .lockdown then 0x0200 else 0)) := by
  have hm : ((begin (s.heard dest)).map endHold).st.mc.mode = s.mc.mode := by
    rw [heard_eq]
    rfl
  refine congrArg Host.Outcome.next
    (sendAction_recorded tag hi hh hb hw (congrArg doneZero ?_) (fun _ => rfl) (fun _ => rfl))
  rw [doReinit_eq, hm, writeModeRecord_configuring hr rfl]

/-- `disarmSources` in the words of section 3.5: which sources stay armed, and what each source keeps. -/
theorem disarmSources_eq (s : State) :
    disarmSources s =
      { s with srcs :=
          { mask := 0
            table := Vector.ofFn fun i =>
              { s.src i with
                state := if i = overrunId ∨ i = compoundId then .quiet else .disarmed
                count := 0, repeatCount := 0, detail := 0, latch := none, overrun := false, expired := false } } } := by
  simp only [disarmSources, Source.cleared, or_comm]

/-- Settles O44: the accepted Reinit is `reinitialise` with its record, and the checks of `writeRefusal_reinit`
refuse the others. -/
theorem reinitResetsAllButConfiguration : Obligations.ReinitResetsAllButConfiguration := by
  unfold Obligations.ReinitResetsAllButConfiguration
  refine fun s dest tag hi hh hb => ⟨fun h => ?accepted, fun hm => ?mode, fun hm hc => ?unseen⟩
  case accepted =>
    have hr : s.mc.mode ≠ .running := by
      rcases h with hm | ⟨hm, -⟩ <;> simp [hm]
    have hs : ¬(s.mc.mode = .lockdown ∧ s.mc.causeSeen = false) := by
      rcases h with hm | ⟨-, hc⟩
      · simp [hm]
      · simp [hc]
    have hw : writeRefusal s .action 6 = none := by rw [writeRefusal_reinit, if_neg hr, if_neg hs]
    rw [exec_reinit_accepted tag hi hh hb hr hw]
    simp only [reinitialise, disarmSources_eq, setMode, clearRecords, clearMismatch, clearReactions, clearEvents]
    rfl
  case mode =>
    exact congrArg Host.Outcome.next <| sendAction_refused tag hi hh hb
      (by rw [writeRefusal_reinit, if_pos hm])
  case unseen =>
    exact congrArg Host.Outcome.next <| sendAction_refused tag hi hh hb
      (by rw [writeRefusal_reinit, if_neg (by simp [hm]), if_pos ⟨hm, hc⟩])

end Sys2Proof.Machine
end

section
/-! PROOFS. A directed Read on an idle link, and the Read of CLAIM that claims nothing: what is not a candidate, and
the pins, which already stand as they should. -/

namespace Sys2Proof.Machine

/-! ## A Read whose register execution is one update of the state -/

/-- A directed Read that an idle node hears, of a register that is not write-only, is executed (R8, R13, R24). -/
theorem sendRequest_read {s : State} {dest : Dest} {index : Byte} {data : Word} {reg : Reg} {f : State → State}
    {reply : Reply} (tag : BitVec 4) (hi : s.linkIdle) (hh : s.hears dest = true) (hd : destDirected dest = true)
    (hr : regAt index = some reg) (ha : reg.access ≠ .writeOnly)
    (hx : executeRead index reg ((begin (s.heard dest)).map endHold) =
      (((begin (s.heard dest)).map endHold).map f, reply))
    (hc : f (endHold (s.heard dest)) = endHold (f (s.heard dest))) :
    sendRequest dest .read index data tag s = s.after dest reply.outcome tag reply.data f := by
  have hn : reg ≠ .raise := by rintro rfl; exact ha rfl
  rw [sendRequest_heard (op := .read) tag hi hh (.inl hd) nofun]
  simp only [reduceCtorEq, if_false, targetOf_read hr ha]
  rw [admitFrame_of_update (f := f) (reply := reply) ?_ (fun h => absurd h hn), hc, recordReply_request, State.after]
  simp only [executeRequest, request_op, opOf_opCode, request_index, hx]

/-! ## An admitted frame with no effect of its own -/

/-- Where the pins of `s` stand as they should, an admitted frame that has no effect but its record leaves them as they
are: neither the link unit nor the watchdog is looked at by the end-of-happening updates (R92). -/
theorem after_id_of_atRest {s : State} (h : s.AtRest) (dest : Dest) (outcome : FrameOutcome) (tag : BitVec 4)
    (data : Word) : s.after dest outcome tag data id = (s.heard dest).replied dest outcome tag data := by
  have units : ∀ (l : LinkUnit) (d : DeadlineUnit),
      endHappening { s with link := l, dl := d } = { s with link := l, dl := d } :=
    fun _ _ => endHappening_of_settled h.effective h.alert
  rw [State.after, id, heard_eq]
  unfold State.replied
  split
  · exact units _ _
  · exact units _ s.dl

/-! ## What is not claimed -/

/-- Outside Lockdown, with neither an unannounced COMPOUND top nor a candidate, a Read of CLAIM is Empty (R98, R101). -/
theorem executeClaim_empty {w : Work} (hm : w.st.mc.mode ≠ .lockdown) (ht : w.st.topUnannounced = false)
    (hc : w.st.candidate = none) (index : Byte) :
    executeClaim index w = (w, { outcome := .empty, data := 0 }) := by
  unfold executeClaim
  rw [if_neg hm, ht, hc]
  rfl

/-- A Read of CLAIM on the state in which its frame is executed, where it claims nothing: neither the stack nor the list
is in the link unit (R98, R101). -/
theorem executeRead_claim_empty {s : State} (hm : s.mc.mode ≠ .lockdown) (ht : s.topUnannounced = false)
    (hc : s.candidate = none) (dest : Dest) (index : Byte) :
    executeRead index .claim ((begin (s.heard dest)).map endHold) =
      ((begin (s.heard dest)).map endHold, { outcome := .empty, data := 0 }) := by
  rw [heard_eq]
  generalize (s.heard dest).link = l
  exact executeClaim_empty (w := (begin { s with link := l }).map endHold) hm ht hc index

/-- There is no candidate exactly where no entry of the list is claimable (R90). -/
theorem candidate_eq_none_iff (s : State) :
    s.candidate = none ↔ ∀ e ∈ s.arb.waiting, s.claimable e.source = false := by
  simp only [State.candidate, List.find?_eq_none, Bool.not_eq_true]

/-- With a full stack nothing is claimable (R90). -/
theorem claimable_of_full {s : State} (h : s.svc.stack.length = Config.stackLimit) (i : SourceId) :
    s.claimable i = false := by
  simp [State.claimable, h]

/-- What is not eligible is not claimable (R90). -/
theorem claimable_of_not_eligible {s : State} {i : SourceId} (h : s.eligible i = false) : s.claimable i = false := by
  simp [State.claimable, h]

/-- What does not stand above the top of the stack is not claimable (R90). -/
theorem claimable_of_not_above {s : State} {top : StackEntry} {rest : List StackEntry} {i : SourceId}
    (hs : s.svc.stack = top :: rest) (h : s.pairAbove i top.source = false) : s.claimable i = false := by
  simp [State.claimable, hs, h]

/-- Settles O32: the frame's only effect is its record, and each situation of R101 denies one condition of
claimability. -/
theorem emptyClaimChangesNothing : Obligations.EmptyClaimChangesNothing := by
  unfold Obligations.EmptyClaimChangesNothing
  refine fun s data tag hrest hi hid => ⟨fun hm ht hc => ?empty, fun hev hm => ?configuring, fun _ h => ?situations⟩
  case empty =>
    have hh : s.hears (.directed s.mc.nodeId) = true := by simpa [State.hears] using hid
    rw [← after_id_of_atRest hrest]
    exact congrArg Host.Outcome.next <| sendRequest_read (reply := ⟨.empty, 0⟩) (f := id) tag hi hh rfl
      (reg := .claim) rfl nofun (executeRead_claim_empty hm ht hc _ 0x10) rfl
  case configuring =>
    obtain ⟨hwaiting, hstack, -⟩ := hev.configuring hm
    have hc : s.candidate = none := by simp [candidate_eq_none_iff, hwaiting]
    exact ⟨by simp [State.topUnannounced, hstack], hc⟩
  case situations =>
    rw [candidate_eq_none_iff]
    intro e he
    rcases h with hnone | hineligible | hfull | ⟨top, rest, hstack, hbelow⟩
    · simp [hnone] at he
    · exact claimable_of_not_eligible (hineligible e he)
    · exact claimable_of_full hfull e.source
    · cases hel : s.eligible e.source with
      | false => exact claimable_of_not_eligible hel
      | true => exact claimable_of_not_above hstack (hbelow e he hel)

end Sys2Proof.Machine
end

section
/-! PROOFS. The stack severity as the greatest rank on the stack, and why the order of the stack makes it the rank of
the top (R96, R113). -/

namespace Sys2Proof.Machine

/-- The stack severity is the greatest of the ranks on the stack and the rank of Notice: the library's `max?` in place
of the model's fold (R113). -/
theorem max?_ranks_eq_severity (s : State) :
    (0 :: s.svc.stack.map fun e => s.rank e.source).max? = some s.severity := by
  rw [List.max?_cons', List.foldl_map, State.severity]

/-- The stack severity of an empty stack is Notice (R113). -/
theorem severity_of_empty {s : State} (h : s.svc.stack = []) : s.severity = 0 := by
  simp [State.severity, h]

/-- No entry of the stack has a more severe class than the stack severity (R113). -/
theorem rank_le_severity {s : State} {e : StackEntry} (he : e ∈ s.svc.stack) : s.rank e.source ≤ s.severity :=
  (List.max?_eq_some_iff.mp (max?_ranks_eq_severity s)).2 _ (List.mem_cons_of_mem _ (List.mem_map_of_mem he))

/-- The severity of a stack that holds an entry is the class of one of its entries (R113): where it is Notice, the class
of every entry is. -/
theorem exists_rank_eq_severity {s : State} (h : s.svc.stack ≠ []) :
    ∃ e ∈ s.svc.stack, s.rank e.source = s.severity := by
  have hmem := (List.max?_eq_some_iff.mp (max?_ranks_eq_severity s)).1
  rcases List.mem_cons.mp hmem with hzero | hrank
  · obtain ⟨e, he⟩ := List.exists_mem_of_ne_nil _ h
    have := rank_le_severity he
    exact ⟨e, he, by omega⟩
  · exact List.mem_map.mp hrank

/-- What stands above another source has no lower rank (R90, R96). -/
theorem rank_le_of_pairAbove {s : State} {i j : SourceId} (h : s.pairAbove i j = true) : s.rank j ≤ s.rank i := by
  simp only [State.pairAbove, Bool.or_eq_true, Bool.and_eq_true, decide_eq_true_eq, beq_iff_eq] at h
  omega

/-- On a nested stack the top has the greatest rank, since it stands above every other entry (R96, R113). -/
theorem rank_le_rank_top {s : State} {top : StackEntry} {rest : List StackEntry}
    (hnested : s.svc.stack.Pairwise fun a b => s.pairAbove a.source b.source = true) (hs : s.svc.stack = top :: rest)
    {e : StackEntry} (he : e ∈ s.svc.stack) : s.rank e.source ≤ s.rank top.source := by
  rw [hs] at hnested he
  rcases List.mem_cons.mp he with rfl | hrest
  · exact le_rfl
  · exact rank_le_of_pairAbove (List.rel_of_pairwise_cons hnested hrest)

/-- On a nested stack the stack severity is the class of the top (R113). -/
theorem severity_eq_rank_top {s : State} {top : StackEntry} {rest : List StackEntry}
    (hnested : s.svc.stack.Pairwise fun a b => s.pairAbove a.source b.source = true)
    (hs : s.svc.stack = top :: rest) : s.severity = s.rank top.source := by
  obtain ⟨e, he, hrank⟩ := exists_rank_eq_severity (s := s) (by simp [hs])
  have hle : s.severity ≤ s.rank top.source := hrank ▸ rank_le_rank_top hnested hs he
  exact le_antisymm hle (rank_le_severity (by simp [hs]))

/-- Settles O40: the severity is the greatest rank of the stack by its definition, and the top has it because the
stack is nested. -/
theorem severityIsTheTopsClass : Obligations.SeverityIsTheTopsClass := by
  unfold Obligations.SeverityIsTheTopsClass
  exact fun s => ⟨severity_of_empty, fun _ => rank_le_severity, exists_rank_eq_severity,
    fun hev _ _ => severity_eq_rank_top hev.nested⟩

end Sys2Proof.Machine
end

section
/-! PROOFS. The journal's actions: each passes its checks in every mode and under the seal, and is one update of the
journal (R28 to R30, R158, R159). -/

namespace Sys2Proof.Machine

/-- The receipt that a heard frame builds leaves the journal as it was. -/
theorem heard_jn (s : State) (dest : Dest) : (s.heard dest).jn = s.jn := by rw [heard_eq]

/-! ## The take -/

/-- The oldest unread record moves into the take window (R158). -/
theorem takeRecord_of_cons {s : State} {r : Words4} {rest : List Words4} (h : s.jn.unread = r :: rest) :
    takeRecord s = { s with jn := { s.jn with window := r, unread := rest } } := by
  simp only [takeRecord, h]

/-- With no unread record the take window becomes zeros (R158). -/
theorem takeRecord_of_nil {s : State} (h : s.jn.unread = []) :
    takeRecord s = { s with jn := { s.jn with window := .zero } } := by
  simp only [takeRecord, h]

/-- A take looks at the journal only, so it does not matter whether the hold has ended before it (R34, R158). -/
theorem takeRecord_endHold (s : State) : takeRecord (endHold s) = endHold (takeRecord s) := by
  cases h : s.jn.unread with
  | nil =>
    rw [takeRecord_of_nil h, takeRecord_of_nil (s := endHold s) h]
    rfl
  | cons r rest =>
    rw [takeRecord_of_cons h, takeRecord_of_cons (s := endHold s) h]
    rfl

/-! ## The actions -/

/-- An action that an idle node hears and accepts, and that is one update of the state with data word 0 (R27, R36). -/
theorem sendAction_accepted {s : State} {dest : Dest} {code : Word} {f : State → State} {outcome : FrameOutcome}
    (tag : BitVec 4) (hi : s.linkIdle) (hh : s.hears dest = true) (hb : s.brokenFor dest 0x02 = false)
    (hw : writeRefusal s .action code = none)
    (hp : doAction code ((begin (s.heard dest)).map endHold) =
      (((begin (s.heard dest)).map endHold).map f, ⟨outcome, 0⟩))
    (hc : ∀ x, f (endHold x) = endHold (f x)) :
    sendAction dest code tag s = s.after dest outcome tag 0 f :=
  sendRequest_write_accepted (reg := .action) (reply := ⟨outcome, 0⟩) tag hi hh hb rfl (by decide) hw hp (hc _)
    (by decide)

/-- JournalTake (code 7) and JournalClear (code 8) fail no check, whatever the mode and the seal (R28 to R30). -/
theorem writeRefusal_journal (s : State) {code : Word} (h : code = 7 ∨ code = 8) :
    writeRefusal s .action code = none := by
  rcases h with rfl | rfl <;> simp [writeRefusal, modeRefuses, sealProtected, specificRefusal]

/-- A JournalTake is a take, reported as Empty exactly where there is no unread record (R158). -/
theorem exec_journalTake {s : State} {dest : Dest} (tag : BitVec 4) (hi : s.linkIdle) (hh : s.hears dest = true)
    (hb : s.brokenFor dest 0x02 = false) :
    exec (.journalTake dest tag) s =
      .next (s.after dest (if s.jn.unread.isEmpty then .empty else .done) tag 0 takeRecord) := by
  rw [← heard_jn s dest]
  exact congrArg Host.Outcome.next <| sendAction_accepted tag hi hh hb (writeRefusal_journal s (.inl rfl)) rfl
    takeRecord_endHold

/-- A JournalClear discards the unread records and the lost count, and is always Done (R159). -/
theorem exec_journalClear {s : State} {dest : Dest} (tag : BitVec 4) (hi : s.linkIdle) (hh : s.hears dest = true)
    (hb : s.brokenFor dest 0x02 = false) :
    exec (.journalClear dest tag) s = .next (s.after dest .done tag 0 fun x =>
      { x with jn := { x.jn with unread := [], lost := 0 } }) :=
  congrArg Host.Outcome.next <| sendAction_accepted tag hi hh hb (writeRefusal_journal s (.inr rfl)) rfl fun _ => rfl

/-- Settles O46: each action is its update in an accepted frame, and the unread records decide which take it is. -/
theorem journalActions : Obligations.JournalActions := by
  unfold Obligations.JournalActions
  refine fun s dest tag hi hh hb => ⟨fun r rest hu => ?moves, fun hu => ?empties, exec_journalClear tag hi hh hb⟩
  case moves =>
    rw [exec_journalTake tag hi hh hb, State.after, takeRecord_of_cons (by rw [heard_jn, hu]), hu]
    rfl
  case empties =>
    rw [exec_journalTake tag hi hh hb, State.after, takeRecord_of_nil (by rw [heard_jn, hu]), hu]
    rfl

end Sys2Proof.Machine
end

section
/-! PROOFS. What the serial engine and the scan tick can do to the state, said once: a property of states that each
update of the list `EngineKeeps` keeps is kept by every occurrence, with the records, reactions and entries to Lockdown
that it gives rise to, and one that each update of `TickKeeps` keeps is kept by the steps of a tick. -/

namespace Sys2Proof.Machine

-- one proof after another: each thread that elaborates costs the check a GiB of its memory limit
set_option Elab.async false

/-! ## The updates of the engine -/

/-- The journal after a record: other unread records and another lost count (R155, R156). -/
def putJournal (u : List Words4) (lost : Byte) (s : State) : State :=
  { s with jn := { s.jn with unread := u, lost := lost } }

/-- Source `i` joins the binding of set `k`, and the set's channels are captured (R141, steps 1 to 3). -/
def bindSet (k : SetId) (i : SourceId) (s : State) : State := captureFreezes k (s.putSet k ((s.set k).bind i))

/-- The mode unit after an entry to Lockdown (R124, steps 1 and 2). -/
def lockState (lockrec locktick : Word) (s : State) : State :=
  { s with mc := { s.mc with mode := .lockdown, lockrec := lockrec, locktick := locktick, causeSeen := false } }

/-- A first latch with the normal outcome puts the source into the list (R82, steps 2 and 3). -/
def latchState (i : SourceId) (detail : Word) (s : State) : State :=
  joinPending i (takePosition i (s.setSrc i { s.src i with count := 1, detail := detail }))

/-- The source in the list, and masked if it masks itself (R82, steps 2 to 4). -/
def maskedLatch (i : SourceId) (detail : Word) (s : State) : State :=
  if ((latchState i detail s).src i).selfMasks then selfMask i (latchState i detail s) else latchState i detail s

/-- The source is absorbed (R115). -/
def absorbState (i : SourceId) (detail : Word) (s : State) : State :=
  takePosition i (s.setSrc i { s.src i with state := .absorbed, count := 1, detail := detail })

/-- A COMPOUND entry is pushed, with its pair in the compound record (R117, R118). -/
def pushState (first second : SourceId) (s : State) : State :=
  let s1 := pushEntry compoundId false s
  let s2 := s1.setSrc compoundId
    { s1.src compoundId with state := .serving, detail := compoundPair first second }
  { s2 with svc := { s2.svc with
      comprec0 := compoundPair first second, comprec1 := s2.tc.count.extractLsb' 0 16 } }

/-- The escalation decision on a source (R112, R114). -/
def State.decision (s : State) (i : SourceId) : LatchOutcome := escalate s.severity (s.src i).cls s.compoundEnable

/-- A record is another journal, within its limit if it was (R155). -/
theorem writeRecord_putJournal (k : RecordKind) (source : Option SourceId) (detail : Word) (w : Work) :
    ∃ u lost, (w.st.jn.unread.length ≤ Config.journalLimit → u.length ≤ Config.journalLimit)
      ∧ (writeRecord k source detail w).st = putJournal u lost w.st :=
  ⟨_, _, writeRecord_unread_le k source detail w, writeRecord_st k source detail w⟩

/-- A reaction is a binding and a record, where the source names a set (R141). -/
theorem applyReaction_eq (i : SourceId) (w : Work) :
    applyReaction i w =
      if (w.st.src i).reactionSet = 0 then w
      else writeRecord .reactApply (some i) ((w.st.src i).reactionSet.zeroExtend 16)
        (w.map (bindSet (setOf (w.st.src i).reactionSet.toNat) i)) := rfl

/-- An entry to Lockdown is a change of the mode unit and two records (R124). -/
theorem enterLockdown_eq (cause : BitVec 4) (source : Option SourceId) (second : BitVec 5) (w : Work) :
    ∃ lockrec locktick, enterLockdown cause source second w =
      writeModeRecord w.st.mc.mode
        (writeRecord .lockdown source (cause.zeroExtend 16) (w.map (lockState lockrec locktick))) :=
  ⟨_, _, rfl⟩

/-- What absorption leaves of the journal. -/
theorem absorbState_jn (i : SourceId) (detail : Word) (s : State) : (absorbState i detail s).jn = s.jn := rfl

/-- An update that another one follows where it calls for it. -/
theorem map_then (w : Work) (f g : State → State) (c : State → Bool) :
    (if c (f w.st) then (w.map f).map g else w.map f) = w.map fun s => if c (f s) then g (f s) else f s := by
  unfold Work.map
  dsimp only
  split <;> rfl

/-- A first latch with the normal outcome is the source's own reaction, its place in the list with its mask, and a record
(R82). -/
theorem normalLatch_eq (i : SourceId) (detail : Word) (w : Work) :
    normalLatch i detail w = writeRecord .latch (some i) detail
      ((if (w.st.src i).reactWhen = .atLatch then applyReaction i w else w).map (maskedLatch i detail)) :=
  congrArg (writeRecord .latch (some i) detail)
    (map_then _ (latchState i detail) (selfMask i) fun s => (s.src i).selfMasks)

/-- Absorption is the source's own reaction, the source's new state and a record (R115). -/
theorem absorb_eq (i : SourceId) (detail : Word) (partner : SourceId) (w : Work) :
    absorb i detail partner w = writeRecord .absorb (some i) ((sourceBits partner).zeroExtend 16)
      ((if (w.st.src i).reactWhen = .atLatch then applyReaction i w else w).map (absorbState i detail)) := rfl

/-- An absorbed source with its record: the source's new state with another journal. -/
theorem absorb_st (i : SourceId) (detail : Word) (partner : SourceId) (w v : Work)
    (hv : (if (w.st.src i).reactWhen = .atLatch then applyReaction i w else w) = v) :
    ∃ u lost, (v.st.jn.unread.length ≤ Config.journalLimit → u.length ≤ Config.journalLimit)
      ∧ (absorb i detail partner w).st = putJournal u lost (absorbState i detail v.st) := by
  rw [absorb_eq, hv]
  have h := writeRecord_putJournal .absorb (some i) ((sourceBits partner).zeroExtend 16)
    (v.map (absorbState i detail))
  rw [map_st, absorbState_jn] at h
  exact h

/-- A COMPOUND push with its record and its reaction (R117). -/
theorem pushCompound_eq (first second : SourceId) (w : Work) :
    pushCompound first second w = applyReaction compoundId
      (writeRecord .compound (some compoundId) (compoundPair first second) (w.map (pushState first second))) := rfl

/-- A COMPOUND push does not look at the journal. -/
theorem pushState_putJournal (first second : SourceId) (u : List Words4) (lost : Byte) (s : State) :
    pushState first second (putJournal u lost s) = putJournal u lost (pushState first second s) := rfl

/-- An entry to Lockdown does not look at the journal. -/
theorem lockState_putJournal (lockrec locktick : Word) (u : List Words4) (lost : Byte) (s : State) :
    lockState lockrec locktick (putJournal u lost s) = putJournal u lost (lockState lockrec locktick s) := rfl

/-- What an entry to Lockdown leaves of the journal before its records. -/
theorem lockState_jn (lockrec locktick : Word) (s : State) : (lockState lockrec locktick s).jn = s.jn := rfl

/-- What a COMPOUND push leaves of the journal. -/
theorem pushState_jn (first second : SourceId) (s : State) : (pushState first second s).jn = s.jn := rfl

/-! ## Properties that the engine keeps -/

/-- The property is kept by every update that the engine makes in processing an occurrence of a source in `A`, with the
JOURNAL occurrences that this gives rise to, in states with the property `S`. -/
structure EngineKeepsOn (A : SourceId → Prop) (S P : State → Prop) : Prop where
  derived : A journalId
  journal : ∀ s u lost, (s.jn.unread.length ≤ Config.journalLimit → u.length ≤ Config.journalLimit) → S s →
    P s → P (putJournal u lost s)
  bind : ∀ s k i, S s → P s → P (bindSet k i s)
  lock : ∀ s i cause lockrec locktick, A i → s.mc.mode = .running → (s.src i).state = .quiet →
    s.decision i = .lockdown cause → S s → P s → P (lockState lockrec locktick s)
  latch : ∀ s i detail, A i → s.mc.mode = .running → (s.src i).state = .quiet → s.decision i = .normal → S s → P s →
    P (maskedLatch i detail s)
  push : ∀ s i detail top rest, A i → s.mc.mode = .running → (s.src i).state = .quiet → s.decision i = .compound →
    s.svc.stack = top :: rest → s.svc.stack.length < Config.stackLimit → S s → P s →
    P (pushState top.source i (absorbState i detail s))
  full : ∀ s i detail lockrec locktick, A i → s.mc.mode = .running → (s.src i).state = .quiet →
    s.decision i = .compound → ¬s.svc.stack.length < Config.stackLimit → S s → P s →
    P (lockState lockrec locktick (absorbState i detail s))
  count : ∀ s i detail, A i → s.mc.mode = .running → (s.src i).state = .pending ∨ (s.src i).state = .absorbed →
    S s → P s → P (countOccurrence i detail s)
  again : ∀ s i detail, A i → s.mc.mode = .running → (s.src i).state = .serving → S s → P s →
    P (countRepeat i detail s)

/-- In all states. -/
def Always : State → Prop := fun _ => True

/-- A property kept in the states with another one that is kept. -/
theorem EngineKeepsOn.given {A : SourceId → Prop} {S P : State → Prop} (h : EngineKeepsOn A Always S)
    (g : EngineKeepsOn A S P) : EngineKeepsOn A Always fun s => S s ∧ P s where
  derived := h.derived
  journal := fun s u lost hu _ hs => ⟨h.journal s u lost hu trivial hs.1, g.journal s u lost hu hs.1 hs.2⟩
  bind := fun s k i _ hs => ⟨h.bind s k i trivial hs.1, g.bind s k i hs.1 hs.2⟩
  lock := fun s i c a b ha hm hq hd _ hs =>
    ⟨h.lock s i c a b ha hm hq hd trivial hs.1, g.lock s i c a b ha hm hq hd hs.1 hs.2⟩
  latch := fun s i d ha hm hq hd _ hs =>
    ⟨h.latch s i d ha hm hq hd trivial hs.1, g.latch s i d ha hm hq hd hs.1 hs.2⟩
  push := fun s i d t r ha hm hq hd ht hl _ hs =>
    ⟨h.push s i d t r ha hm hq hd ht hl trivial hs.1, g.push s i d t r ha hm hq hd ht hl hs.1 hs.2⟩
  full := fun s i d a b ha hm hq hd hl _ hs =>
    ⟨h.full s i d a b ha hm hq hd hl trivial hs.1, g.full s i d a b ha hm hq hd hl hs.1 hs.2⟩
  count := fun s i d ha hm hc _ hs => ⟨h.count s i d ha hm hc trivial hs.1, g.count s i d ha hm hc hs.1 hs.2⟩
  again := fun s i d ha hm hc _ hs => ⟨h.again s i d ha hm hc trivial hs.1, g.again s i d ha hm hc hs.1 hs.2⟩

/-- What the decision to latch looks at is the same after the source's own reaction (R82, R115, step 1). -/
structure SameForLatch (s t : State) : Prop where
  mc    : t.mc = s.mc
  srcs  : t.srcs = s.srcs
  svc   : t.svc = s.svc
  regs  : t.regs = s.regs

theorem sameForLatch_reaction (j : SourceId) (w : Work) :
    SameForLatch w.st (if (w.st.src j).reactWhen = .atLatch then applyReaction j w else w).st := by
  split
  · rw [applyReaction_st]
    exact ⟨rfl, rfl, rfl, rfl⟩
  · exact ⟨rfl, rfl, rfl, rfl⟩

theorem SameForLatch.src {s t : State} (g : SameForLatch s t) (j : SourceId) : t.src j = s.src j := by
  rw [State.src, g.srcs]
  rfl

theorem SameForLatch.decision {s t : State} (g : SameForLatch s t) (i : SourceId) : t.decision i = s.decision i := by
  simp only [State.decision, State.severity, State.rank, State.compoundEnable, g.svc, g.regs, g.src]

/-- A happening is live exactly in Running (R80). -/
theorem live_iff (w : Work) : w.live = true ↔ w.st.mc.mode = .running := by
  simp [Work.live]

/-- A property of the state that every step of a fold keeps is kept by the fold. -/
theorem foldl_keeps {P : State → Prop} {α : Type} {f : Work → α → Work} {l : List α}
    (hf : ∀ v, ∀ a ∈ l, P v.st → P (f v a).st) {w : Work} (hw : P w.st) : P (l.foldl f w).st := by
  induction l generalizing w with
  | nil => exact hw
  | cons a l ih =>
    exact ih (fun v b hb => hf v b (List.mem_cons_of_mem _ hb)) (hf w a List.mem_cons_self hw)

section
variable {A : SourceId → Prop} {P : State → Prop} (h : EngineKeepsOn A Always P)
include h

theorem EngineKeepsOn.writeRecord {w : Work} (hw : P w.st) (k : RecordKind) (source : Option SourceId)
    (detail : Word) : P (writeRecord k source detail w).st := by
  obtain ⟨u, lost, hu, e⟩ := writeRecord_putJournal k source detail w
  rw [e]
  exact h.journal _ _ _ hu trivial hw

theorem EngineKeepsOn.applyReaction {w : Work} (hw : P w.st) (i : SourceId) : P (applyReaction i w).st := by
  rw [applyReaction_eq]
  split
  · exact hw
  · exact h.writeRecord (h.bind _ _ _ trivial hw) _ _ _

theorem EngineKeepsOn.enterLockdown {w : Work} (hw : ∀ lockrec locktick, P (lockState lockrec locktick w.st))
    (cause : BitVec 4) (source : Option SourceId) (second : BitVec 5) : P (enterLockdown cause source second w).st := by
  obtain ⟨lockrec, locktick, e⟩ := enterLockdown_eq cause source second w
  rw [e]
  exact h.writeRecord (h.writeRecord (hw _ _) _ _ _) _ _ _

theorem EngineKeepsOn.latchReaction {w : Work} (hw : P w.st) (i : SourceId) :
    P (if (w.st.src i).reactWhen = .atLatch then Machine.applyReaction i w else w).st := by
  split
  · exact h.applyReaction hw i
  · exact hw

theorem EngineKeepsOn.normalLatch {w : Work} (hw : P w.st) (hm : w.st.mc.mode = .running) {i : SourceId} (ha : A i)
    (hq : (w.st.src i).state = .quiet) (hd : w.st.decision i = .normal) (detail : Word) :
    P (normalLatch i detail w).st := by
  have hs := sameForLatch_reaction i w
  rw [normalLatch_eq]
  refine h.writeRecord (h.latch _ i detail ha ?_ ?_ ?_ trivial (h.latchReaction hw i)) _ _ _
  · rw [hs.mc]
    exact hm
  · rw [hs.src]
    exact hq
  · rw [hs.decision]
    exact hd

theorem EngineKeepsOn.compoundLatch {w : Work} (hw : P w.st) (hm : w.st.mc.mode = .running) {i : SourceId} (ha : A i)
    (hq : (w.st.src i).state = .quiet) (hd : w.st.decision i = .compound) (detail : Word) :
    P (compoundLatch i detail w).st := by
  unfold Machine.compoundLatch
  split
  · exact hw
  · next top rest hst =>
    dsimp only
    have hr := h.latchReaction hw i
    have hs := sameForLatch_reaction i w
    obtain ⟨u, lost, hu, e⟩ := absorb_st i detail top.source w _ rfl
    generalize (if (w.st.src i).reactWhen = .atLatch then Machine.applyReaction i w else w) = v at hr hs hu e
    have hm' : v.st.mc.mode = .running := by rw [hs.mc]; exact hm
    have hq' : (v.st.src i).state = .quiet := by rw [hs.src]; exact hq
    have hd' : v.st.decision i = .compound := by rw [hs.decision]; exact hd
    generalize absorb i detail top.source w = w1 at e ⊢
    split
    · next hlen =>
      have hlen' : v.st.svc.stack.length < Config.stackLimit := by rw [e] at hlen; exact hlen
      have hst' : v.st.svc.stack = top :: rest := by rw [hs.svc]; exact hst
      have hp := h.push v.st i detail top rest ha hm' hq' hd' hst' hlen' trivial hr
      rw [pushCompound_eq]
      refine h.applyReaction (h.writeRecord ?_ _ _ _) _
      rw [map_st, e, pushState_putJournal]
      refine h.journal _ u lost ?_ trivial hp
      rw [pushState_jn, absorbState_jn]
      exact hu
    · next hlen =>
      have hlen' : ¬v.st.svc.stack.length < Config.stackLimit := by rw [e] at hlen; exact hlen
      refine h.enterLockdown (fun lockrec locktick => ?_) _ _ _
      rw [e, lockState_putJournal]
      refine h.journal _ u lost ?_ trivial (h.full v.st i detail lockrec locktick ha hm' hq' hd' hlen' trivial hr)
      rw [lockState_jn, absorbState_jn]
      exact hu

theorem EngineKeepsOn.firstLatch {w : Work} (hw : P w.st) (hm : w.st.mc.mode = .running) {i : SourceId} (ha : A i)
    (hq : (w.st.src i).state = .quiet) (detail : Word) : P (firstLatch i detail w).st := by
  unfold Machine.firstLatch
  split
  · next hd => exact h.normalLatch hw hm ha hq hd detail
  · next hd => exact h.compoundLatch hw hm ha hq hd detail
  · next hd => exact h.enterLockdown (fun _ _ => h.lock _ i _ _ _ ha hm hq hd trivial hw) _ _ _

theorem EngineKeepsOn.occur {w : Work} (hw : P w.st) {i : SourceId} (ha : A i) (detail : Word) :
    P (occur i detail w).st := by
  by_cases hl : w.live = true
  · have hm := (live_iff w).mp hl
    cases hs : (w.st.src i).state with
    | disarmed => rw [occur_disarmed hs]; exact hw
    | quiet => rw [occur_quiet hl hs]; exact h.firstLatch hw hm ha hs detail
    | pending => rw [occur_counted hl (.inl hs)]; exact h.count _ _ _ ha hm (.inl hs) trivial hw
    | absorbed => rw [occur_counted hl (.inr hs)]; exact h.count _ _ _ ha hm (.inr hs) trivial hw
    | serving =>
      rw [occur_serving hl hs]
      split
      · exact h.again _ _ _ ha hm hs trivial hw
      · exact hw
  · rw [occur_of_not_live (Bool.eq_false_iff.mpr hl)]
    exact hw

theorem EngineKeepsOn.drain {w : Work} (hw : P w.st) : P (drain w).st :=
  foldl_keeps (f := fun v d => occurJournal d v) (w := { w with derived := [] })
    (fun _ d _ hv => h.occur (i := journalId) hv h.derived d) hw

theorem EngineKeepsOn.occurAll {w : Work} (hw : P w.st) {i : SourceId} (ha : A i) (detail : Word) :
    P (occurAll i detail w).st :=
  h.drain (h.occur hw ha detail)

end

/-- The property is kept by every update that the engine makes in processing an occurrence. No occurrence is one of
COMPOUND. -/
structure EngineKeeps (P : State → Prop) : Prop where
  journal : ∀ s u lost, (s.jn.unread.length ≤ Config.journalLimit → u.length ≤ Config.journalLimit) →
    P s → P (putJournal u lost s)
  bind : ∀ s k i, P s → P (bindSet k i s)
  lock : ∀ s lockrec locktick, P s → P (lockState lockrec locktick s)
  mask : ∀ s i, P s → P (selfMask i s)
  latch : ∀ s i detail, s.mc.mode = .running → (s.src i).state = .quiet → i ≠ compoundId → P s →
    P (latchState i detail s)
  push : ∀ s i detail top rest, s.mc.mode = .running → (s.src i).state = .quiet → i ≠ compoundId →
    s.decision i = .compound → s.svc.stack = top :: rest → s.svc.stack.length < Config.stackLimit → P s →
    P (pushState top.source i (absorbState i detail s))
  full : ∀ s i detail lockrec locktick, s.mc.mode = .running → (s.src i).state = .quiet → i ≠ compoundId →
    P s → P (lockState lockrec locktick (absorbState i detail s))
  count : ∀ s i detail, s.mc.mode = .running → (s.src i).state = .pending ∨ (s.src i).state = .absorbed →
    i ≠ compoundId → P s → P (countOccurrence i detail s)
  again : ∀ s i detail, s.mc.mode = .running → (s.src i).state = .serving → i ≠ compoundId → P s →
    P (countRepeat i detail s)

section
variable {P : State → Prop} (h : EngineKeeps P)
include h

theorem EngineKeeps.on : EngineKeepsOn (· ≠ compoundId) Always P where
  derived := by decide
  journal := fun s u lost hu _ hs => h.journal s u lost hu hs
  bind := fun s k i _ hs => h.bind s k i hs
  lock := fun s _ _ a b _ _ _ _ _ hs => h.lock s a b hs
  latch := fun s i d hi hm hq _ _ hs => by
    unfold maskedLatch
    split
    · exact h.mask _ _ (h.latch s i d hm hq hi hs)
    · exact h.latch s i d hm hq hi hs
  push := fun s i d t r hi hm hq hd ht hl _ hs => h.push s i d t r hm hq hi hd ht hl hs
  full := fun s i d a b hi hm hq _ _ _ hs => h.full s i d a b hm hq hi hs
  count := fun s i d hi hm hc _ hs => h.count s i d hm hc hi hs
  again := fun s i d hi hm hc _ hs => h.again s i d hm hc hi hs

theorem EngineKeeps.writeRecord {w : Work} (hw : P w.st) (k : RecordKind) (source : Option SourceId) (detail : Word) :
    P (writeRecord k source detail w).st := h.on.writeRecord hw k source detail

theorem EngineKeeps.applyReaction {w : Work} (hw : P w.st) (i : SourceId) : P (applyReaction i w).st :=
  h.on.applyReaction hw i

theorem EngineKeeps.enterLockdown {w : Work} (hw : ∀ lockrec locktick, P (lockState lockrec locktick w.st))
    (cause : BitVec 4) (source : Option SourceId) (second : BitVec 5) : P (enterLockdown cause source second w).st :=
  h.on.enterLockdown hw cause source second

theorem EngineKeeps.occur {w : Work} (hw : P w.st) {i : SourceId} (hi : i ≠ compoundId) (detail : Word) :
    P (occur i detail w).st := h.on.occur hw hi detail

theorem EngineKeeps.drain {w : Work} (hw : P w.st) : P (drain w).st := h.on.drain hw

theorem EngineKeeps.occurAll {w : Work} (hw : P w.st) {i : SourceId} (hi : i ≠ compoundId) (detail : Word) :
    P (occurAll i detail w).st := h.on.occurAll hw hi detail

end

/-! ## Properties that a tick keeps -/

/-- The property is kept by every update that the visits of step 6 make to the entries of the sources in `V`, in states
with the property `S`; the occurrences are those of STALE (R128, R129). -/
structure ClaimsKeepOn (A V : SourceId → Prop) (S P : State → Prop) : Prop where
  engine  : EngineKeepsOn A S P
  stale   : A staleId
  entry   : ∀ s i d, V i → S s → P s → P (setClaimDeadline i d s)
  expired : ∀ s i, V i → i ∈ s.arb.waiting.map (·.source) → S s → P s → P (s.setSrc i { s.src i with expired := true })

/-- The property is kept by every update of steps 6 and 7 (R93). -/
structure LateKeepsOn (A V : SourceId → Prop) (S P : State → Prop) : Prop extends ClaimsKeepOn A V S P where
  silence  : A silenceId
  watchdog : ∀ s o, S s → P s → P { s with dl := { s.dl with watchdog := o } }

/-- The property is kept by every update of steps 4 to 7, of a tick that began with a stack of this depth (R93). -/
structure RestKeepsOn (A V : SourceId → Prop) (depth : Nat) (S P : State → Prop) : Prop extends LateKeepsOn A V S P where
  mismatch : A mismatchId
  overdue  : A overrunId
  compare  : ∀ s, S s → P s → P (compareReadback s)
  top      : ∀ s d, s.svc.stack.length = depth → S s → P s → P (setTopDeadline d s)
  overrun  : ∀ s top rest, s.svc.stack = top :: rest → s.svc.stack.length = depth → S s → P s →
    P (s.setSrc top.source { s.src top.source with overrun := true })
  nested   : ∀ s d lockrec locktick, s.svc.stack.length = depth → S s → P s →
    P (lockState lockrec locktick (setTopDeadline d s))

section
variable {A V : SourceId → Prop} {P : State → Prop}

/-- A source whose claim deadline runs down has an entry. -/
theorem mem_of_claimDeadline_runs {s : State} {i : SourceId} (h : (s.claimDeadlineOf i).runs = true) :
    i ∈ s.arb.waiting.map (·.source) := by
  unfold State.claimDeadlineOf at h
  split at h
  · next e he => exact List.mem_map.mpr ⟨e, List.mem_of_find?_eq_some he, by simpa using List.find?_some he⟩
  · cases h

/-- Another deadline in the list leaves its sources. -/
theorem map_source_setClaimDeadline (i : SourceId) (d : Deadline) (s : State) :
    (setClaimDeadline i d s).arb.waiting.map (·.source) = s.arb.waiting.map (·.source) := by
  show ((s.arb.waiting.map fun e => if e.source = i then { e with deadline := d } else e).map (·.source)) = _
  rw [List.map_map]
  refine List.map_congr_left fun e _ => ?_
  show (if e.source = i then { e with deadline := d } else e).source = e.source
  split <;> rfl

theorem ClaimsKeepOn.expireClaim (h : ClaimsKeepOn A V Always P) {w : Work} (hw : P w.st) {i : SourceId} (hv : V i)
    (hi : i ∈ w.st.arb.waiting.map (·.source)) : P (expireClaim i w).st := by
  unfold Machine.expireClaim
  dsimp only
  have hm : P (w.map fun s => (setClaimDeadline i .spent s).setSrc i { s.src i with expired := true }).st := by
    refine h.expired (setClaimDeadline i .spent w.st) i hv ?_ trivial (h.entry _ _ _ hv trivial hw)
    rw [map_source_setClaimDeadline]
    exact hi
  refine h.engine.drain (h.engine.occur ?_ h.stale _)
  split
  · exact h.engine.applyReaction hm i
  · exact hm

theorem ClaimsKeepOn.visitEntry (h : ClaimsKeepOn A V Always P) {w : Work} (hw : P w.st) {i : SourceId} (hv : V i) :
    P (visitEntry w i).st := by
  unfold Machine.visitEntry
  split
  · split
    · next n hn =>
      split
      · exact h.expireClaim hw hv (mem_of_claimDeadline_runs (hn ▸ rfl))
      · exact h.entry _ _ _ hv trivial hw
    · exact hw
    · exact hw
  · exact hw

theorem ClaimsKeepOn.stepClaims (h : ClaimsKeepOn A V Always P) {w : Work} (hw : P w.st) {atStart : List SourceId}
    (hv : ∀ i ∈ atStart, V i) : P (stepClaims atStart w).st := by
  refine foldl_keeps (fun v i hi hp => h.visitEntry hp (hv i ?_)) hw
  simpa using (List.mem_filter.mp hi).2

theorem LateKeepsOn.expireWatchdog (h : LateKeepsOn A V Always P) {w : Work} (hw : P w.st) :
    P (expireWatchdog w).st :=
  h.engine.occurAll (w := w.map stopWatchdog) (h.watchdog _ _ trivial hw) h.silence _

theorem LateKeepsOn.stepWatchdog (h : LateKeepsOn A V Always P) {w : Work} (hw : P w.st) : P (stepWatchdog w).st := by
  unfold Machine.stepWatchdog
  split
  · exact hw
  · split
    · exact h.expireWatchdog hw
    · exact h.watchdog _ _ trivial hw

variable {depth : Nat}

theorem RestKeepsOn.stepReadback (h : RestKeepsOn A V depth Always P) {w : Work} (hw : P w.st) :
    P (stepReadback w).st := by
  unfold Machine.stepReadback
  dsimp only
  have hc : P (w.map compareReadback).st := h.compare _ trivial hw
  split
  · exact hc
  · exact h.engine.occurAll hc h.mismatch _

theorem RestKeepsOn.stepService (h : RestKeepsOn A V depth Always P) {w : Work} (hw : P w.st) :
    P (stepService depth w).st := by
  unfold Machine.stepService
  split
  · exact hw
  next top rest hst =>
  split
  · exact hw
  next hlen =>
  have hlen' : w.st.svc.stack.length = depth := not_not.mp hlen
  split
  · split
    · unfold expireTop
      split
      · exact h.engine.enterLockdown (w := w.map (setTopDeadline .spent))
          (fun a b => h.nested _ _ a b hlen' trivial hw) _ _ _
      · refine h.engine.occurAll (w := w.map fun s => setTopDeadline .spent (s.setSrc top.source
          { s.src top.source with overrun := true })) ?_ h.overdue _
        exact h.top (w.st.setSrc top.source _) _ hlen' trivial (h.overrun w.st top rest hst hlen' trivial hw)
    · exact h.top _ _ hlen' trivial hw
  · exact hw
  · exact hw

/-- A step that the happening may have abandoned keeps what the step keeps. -/
theorem ifLive_keeps {f : Work → Work} {w : Work} (hf : P w.st → P (f w).st) (hw : P w.st) : P (ifLive f w).st := by
  unfold ifLive
  split
  · exact hf hw
  · exact hw

/-- Steps 4 to 7 of a tick in Running (R93, R94). -/
def restSteps (depth : Nat) (atStart : List SourceId) (w : Work) : Work :=
  ifLive stepWatchdog (ifLive (stepClaims atStart) (ifLive (stepService depth) (ifLive stepReadback w)))

theorem RestKeepsOn.restSteps (h : RestKeepsOn A V depth Always P) {w : Work} (hw : P w.st) {atStart : List SourceId}
    (hv : ∀ i ∈ atStart, V i) : P (restSteps depth atStart w).st :=
  ifLive_keeps h.stepWatchdog <| ifLive_keeps (fun g => h.stepClaims g hv) <| ifLive_keeps h.stepService <|
    ifLive_keeps h.stepReadback hw

end

/-- The property is kept by every update that the steps of a tick make. -/
structure TickKeeps (P : State → Prop) : Prop where
  engine  : EngineKeeps P
  compare : ∀ s, P s → P (compareReadback s)
  top     : ∀ s d, P s → P (setTopDeadline d s)
  overrun : ∀ s i, P s → P (s.setSrc i { s.src i with overrun := true })
  entry   : ∀ s i d, P s → P (setClaimDeadline i d s)
  expired : ∀ s i, P s → P (s.setSrc i { s.src i with expired := true })
  watchdog : ∀ s o, P s → P { s with dl := { s.dl with watchdog := o } }

/-- No source of a line is COMPOUND. -/
theorem lineSource_ne_compound (k : LineId) : lineSource k ≠ compoundId := by
  intro h
  have hv : k.val = 28 := congrArg Fin.val h
  omega

section
variable {P : State → Prop} (h : TickKeeps P)
include h

theorem TickKeeps.rest (depth : Nat) : RestKeepsOn (· ≠ compoundId) (fun _ => True) depth Always P where
  engine := h.engine.on
  stale := by decide
  silence := by decide
  mismatch := by decide
  overdue := by decide
  entry := fun s i d _ _ hs => h.entry s i d hs
  expired := fun s i _ _ _ hs => h.expired s i hs
  watchdog := fun s o _ hs => h.watchdog s o hs
  compare := fun s _ hs => h.compare s hs
  top := fun s d _ _ hs => h.top s d hs
  overrun := fun s top _ _ _ _ hs => h.overrun s top.source hs
  nested := fun s d a b _ _ hs => h.engine.lock _ a b (h.top s d hs)

theorem TickKeeps.stepExternal {w : Work} (hw : P w.st) (changed : BitVec 24) : P (stepExternal changed w).st := by
  refine foldl_keeps (fun v k _ hv => ?_) hw
  unfold scanLine
  split
  · exact h.engine.occurAll hv (lineSource_ne_compound k) _
  · exact hv

theorem TickKeeps.expireService {w : Work} (hw : P w.st) (i : SourceId) : P (expireService i w).st := by
  unfold Machine.expireService
  refine h.engine.occurAll ?_ (by decide) _
  exact h.top _ _ (h.overrun _ _ hw)

theorem TickKeeps.expireNested {w : Work} (hw : P w.st) (i : SourceId) : P (expireNested i w).st := by
  unfold Machine.expireNested
  refine h.engine.enterLockdown (fun _ _ => ?_) _ _ _
  exact h.engine.lock _ _ _ (h.top _ _ hw)

theorem TickKeeps.expireClaim {w : Work} (hw : P w.st) {i : SourceId} (hi : i ∈ w.st.arb.waiting.map (·.source)) :
    P (expireClaim i w).st := (h.rest 0).expireClaim hw trivial hi

theorem TickKeeps.expireWatchdog {w : Work} (hw : P w.st) : P (expireWatchdog w).st := (h.rest 0).expireWatchdog hw

theorem TickKeeps.tickSteps {w : Work} (hw : P w.st) (changed : BitVec 24) : P (tickSteps changed w).st := by
  unfold Machine.tickSteps
  dsimp only
  split
  · exact (h.rest _).restSteps (h.stepExternal hw changed) fun _ _ => trivial
  · exact h.compare _ hw

/-- A tick's happening keeps what its steps keep, and the sampling and the end-of-happening updates too (R93). -/
theorem TickKeeps.tickHappening {s : State} {lines : BitVec 24} {readback : Word}
    (hw : P (sampleInputs lines readback (advanceCounter s))) (he : ∀ t, P t → P (endHappening t)) :
    P (tickHappening lines readback s) :=
  he _ (h.engine.drain (h.tickSteps (w := begin (sampleInputs lines readback (advanceCounter s))) hw _))

end

end Sys2Proof.Machine
end

section
/-! PROOFS. What a command can do to the state, said once: a property that says nothing of the link unit and that each
update of the list `CommandKeeps` keeps is kept by every command and by every step. -/

namespace Sys2Proof.Machine

-- one proof after another: each thread that elaborates costs the check a GiB of its memory limit
set_option Elab.async false

/-! ## The updates of register execution -/

/-- The candidate's claim, without its record (R99, steps 1 to 5). -/
def claimState (i : SourceId) (s : State) : State :=
  let s1 := { s with
    arb := { s.arb with waiting := s.arb.waiting.filter (·.source != i) }
    svc := { s.svc with claimrec := s.claimRecordOf i } }
  let s2 := pushEntry i true s1
  s2.setSrc i { s2.src i with
    state := .serving, count := 0, repeatCount := 0, latch := none, overrun := false, expired := false }

/-- The announcement of the top, without its record (R100). -/
def announceState (s : State) : State :=
  { s with svc := { s.svc with
      stack := mapTop (fun e => { e with announced := true }) s.svc.stack, claimrec := s.compoundRecord } }

/-- The claim of a candidate is its update and a record (R99). -/
theorem claimCandidate_eq (i : SourceId) (w : Work) :
    claimCandidate i w =
      writeRecord .claim (some i) ((w.st.src i).count.zeroExtend 16) (w.map (claimState i)) := rfl

/-- An announcement is its update and a record (R100). -/
theorem announceCompound_eq (w : Work) :
    announceCompound w = writeRecord .claim (some compoundId) 1 (w.map announceState) := rfl

/-- A completion is a pop, a record, and what becomes of the source (R106). -/
theorem completeTop_eq (i : SourceId) (w : Work) :
    completeTop i w =
      (writeRecord .complete (some i) ((w.st.src i).repeatCount.zeroExtend 16) (w.map popStack)).map
        (settleCompleted i) := rfl

/-- The journal stays as it was or becomes shorter, and the take window is another one (R158). -/
def putTaken (u : List Words4) (window : Words4) (s : State) : State :=
  { s with jn := { s.jn with unread := u, window := window } }

/-- A take moves at most the oldest record (R158). -/
theorem takeRecord_putTaken (s : State) :
    ∃ n window, takeRecord s = putTaken (s.jn.unread.drop n) window s := by
  cases h : s.jn.unread with
  | nil => exact ⟨0, .zero, by rw [takeRecord_of_nil h, putTaken, List.drop_zero, ← h]⟩
  | cons r rest => exact ⟨1, r, by rw [takeRecord_of_cons h]; rfl⟩

/-! ## What an accepted Write has passed -/

/-- An accepted Write has passed its register-specific checks (R27, R30). -/
theorem specific_of_accepted {s : State} {r : Reg} {data : Word} (h : writeRefusal s r data = none) :
    specificRefusal s r data = none := by
  unfold writeRefusal at h
  split at h
  · cases h
  split at h
  · cases h
  · exact h

/-- An accepted Write has passed the Mode check (R27, R28). -/
theorem mode_of_accepted {s : State} {r : Reg} {data : Word} (h : writeRefusal s r data = none) :
    modeRefuses s.mc.mode r data = false := by
  unfold writeRefusal at h
  split at h
  · cases h
  · next hm => exact Bool.eq_false_iff.mpr hm

/-- An accepted Start is one in Configuring (R28). -/
theorem accepted_start {s : State} (h : writeRefusal s .action 1 = none) : s.mc.mode = .configuring := by
  simpa [modeRefuses] using mode_of_accepted h

/-- An accepted Stop is one in Running with nothing pending or in service (R28, R43). -/
theorem accepted_stop {s : State} (h : writeRefusal s .action 2 = none) :
    s.mc.mode = .running ∧ s.svc.stack = [] ∧ s.arb.waiting = [] := by
  have hs := specific_of_accepted h
  refine ⟨by simpa [modeRefuses] using mode_of_accepted h, ?_⟩
  simpa [specificRefusal] using hs

/-- An accepted Recover is one in Lockdown whose cause has been seen (R28, R47). -/
theorem accepted_recover {s : State} (h : writeRefusal s .action 3 = none) :
    s.mc.mode = .lockdown ∧ s.mc.causeSeen = true := by
  rw [writeRefusal_recover] at h
  split_ifs at h with hm hc
  exact ⟨not_not.mp hm, by simpa using hc⟩

/-- An accepted Reinit is not in Running, and in Lockdown the cause has been seen (R28, R48). -/
theorem accepted_reinit {s : State} (h : writeRefusal s .action 6 = none) :
    s.mc.mode ≠ .running ∧ (s.mc.mode = .lockdown → s.mc.causeSeen = true) := by
  rw [writeRefusal_reinit] at h
  split_ifs at h with hm hc
  exact ⟨hm, fun hl => by simpa [hl] using hc⟩

/-- An accepted Complete is one outside Lockdown that names the source of the top, announced (R28, R105). -/
theorem accepted_complete {s : State} {data : Word} (h : writeRefusal s .complete data = none) :
    s.mc.mode ≠ .lockdown ∧ ∃ top rest, s.svc.stack = top :: rest ∧ top.source = namedSource data
      ∧ (top.source = compoundId → top.announced = true) := by
  have hs := specific_of_accepted h
  refine ⟨by simpa [modeRefuses] using mode_of_accepted h, ?_⟩
  simp only [specificRefusal] at hs
  split at hs
  · cases hs
  split at hs
  · cases hs
  · next top rest hst =>
    refine ⟨top, rest, hst, ?_⟩
    split at hs
    · cases hs
    · next hn =>
      split at hs
      · cases hs
      · next ha => exact ⟨not_not.mp hn, fun hc => by simpa [hc] using ha⟩

/-- An accepted Arm names an armed source, or one whose descriptor is valid (R71, R72). -/
theorem accepted_arm {s : State} {data : Word} (h : writeRefusal s .arm data = none) :
    (s.src (namedSource data)).armed = true ∨ armFault (namedSource data) (s.src (namedSource data)) = none := by
  have hs := specific_of_accepted h
  simp only [specificRefusal] at hs
  split at hs
  · cases hs
  split at hs
  · next ha => exact .inl ha
  · split at hs
    · cases hs
    · next ha => exact .inr ha

/-- An accepted Disarm names neither COMPOUND nor OVERRUN, and no source that is Pending, Serving or Absorbed (R73). -/
theorem accepted_disarm {s : State} {data : Word} (h : writeRefusal s .disarm data = none) :
    namedSource data ≠ compoundId ∧ namedSource data ≠ overrunId ∧ s.busy (namedSource data) = false := by
  have hs := specific_of_accepted h
  simp only [specificRefusal] at hs
  split at hs
  · cases hs
  split at hs
  · cases hs
  · next hn =>
    split at hs
    · cases hs
    · next hb => exact ⟨fun e => hn (.inl e), fun e => hn (.inr e), Bool.eq_false_iff.mpr hb⟩

/-! ## Properties that every command keeps -/

/-- The property is kept by every update that an admitted Write makes before it is recorded (R27). -/
structure WriteKeeps (P : State → Prop) : Prop where
  tick     : TickKeeps P
  refuse   : ∀ s word n, P s → P { s with regs := { s.regs with refusal := word, armcheck := n } }
  put      : ∀ s r data, writeRefusal s r data = none → P s → P (putReg r data s)
  arm      : ∀ s data, writeRefusal s .arm data = none → P s → P (armSource (namedSource data) s)
  disarm   : ∀ s data, writeRefusal s .disarm data = none → P s → P (disarmSource (namedSource data) s)
  complete : ∀ s data, writeRefusal s .complete data = none → P s →
    P (settleCompleted (namedSource data) (popStack s))
  release  : ∀ s k, P s → P (dropSet k s)
  start    : ∀ s, s.mc.mode = .configuring → P s → P (loadWatchdog (clearMismatch (setMode .running s)))
  stop     : ∀ s, s.mc.mode = .running → s.svc.stack = [] → s.arb.waiting = [] → P s →
    P (stopWatchdog (setMode .configuring s))
  recover  : ∀ s, s.mc.mode = .lockdown → P s → P (recoverEvents s)
  reinit   : ∀ s, s.mc.mode ≠ .running → P s → P (reinitialise s)
  sealing  : ∀ s, P s → P { s with regs := { s.regs with sealed := true } }
  taken    : ∀ s n window, P s → P (putTaken (s.jn.unread.drop n) window s)

/-- The property is kept by every update that a frame makes once it is received: those of the engine, of register
execution, and of the record. -/
structure RequestKeeps (P : State → Prop) : Prop extends WriteKeeps P where
  settle   : ∀ s, P s → P (endHappening s)
  hold     : ∀ s x, P s → P { s with link := { s.link with hold := x } }
  record   : ∀ s p, P s → P (recordFrame p s)
  reject   : ∀ s cause tag index, P s → P (recordRejection cause tag index s)
  seen     : ∀ s, P s → P { s with mc := { s.mc with causeSeen := true } }
  snapshot : ∀ s, P s → P { s with tc := { s.tc with snapshot := s.tc.count } }
  claim    : ∀ s e, s.candidate = some e → P s → P (claimState e.source s)
  announce : ∀ s, s.topUnannounced = true → P s → P (announceState s)

section
variable {P : State → Prop} (h : WriteKeeps P)
include h

theorem WriteKeeps.writeRecord {w : Work} (hw : P w.st) (k : RecordKind) (source : Option SourceId)
    (detail : Word) : P (writeRecord k source detail w).st := h.tick.engine.writeRecord hw k source detail

theorem WriteKeeps.doAction {w : Work} (hw : P w.st) {code : Word} (hc : writeRefusal w.st .action code = none) :
    P (doAction code w).1.st := by
  unfold Machine.doAction
  split
  · next e =>
    subst e
    exact h.writeRecord (w := w.map fun s => loadWatchdog (clearMismatch (setMode .running s)))
      (h.start _ (accepted_start hc) hw) _ _ _
  split
  · next e =>
    subst e
    obtain ⟨hm, hs, hl⟩ := accepted_stop hc
    exact h.writeRecord (w := w.map fun s => stopWatchdog (setMode .configuring s)) (h.stop _ hm hs hl hw) _ _ _
  split
  · next e =>
    subst e
    show P (doRecover w).st
    rw [doRecover_eq]
    exact h.writeRecord (w := w.map recoverEvents) (h.recover w.st (accepted_recover hc).1 hw) _ _ _
  split
  · exact h.sealing _ hw
  split
  · show P (doForceLockdown w).st
    unfold doForceLockdown
    split
    · exact hw
    · exact h.tick.engine.enterLockdown (fun _ _ => h.tick.engine.lock _ _ _ hw) _ _ _
  split
  · next e =>
    subst e
    show P (doReinit w).st
    rw [doReinit_eq]
    exact h.writeRecord (w := w.map reinitialise) (h.reinit w.st (accepted_reinit hc).1 hw) _ _ _
  split
  · obtain ⟨n, window, e⟩ := takeRecord_putTaken w.st
    show P (takeRecord w.st)
    rw [e]
    exact h.taken _ _ _ hw
  split
  · exact h.tick.engine.journal w.st [] 0 (fun _ => Nat.zero_le _) hw
  · exact hw

theorem WriteKeeps.complete_st {w : Work} (hw : P w.st) {data : Word}
    (hc : writeRefusal w.st .complete data = none) : P (completeTop (namedSource data) w).st := by
  rw [completeTop_eq]
  obtain ⟨u, lost, hu, e⟩ := writeRecord_putJournal .complete (some (namedSource data))
    ((w.st.src (namedSource data)).repeatCount.zeroExtend 16) (w.map popStack)
  rw [map_st, e]
  exact h.complete (putJournal u lost w.st) data hc (h.tick.engine.journal _ u lost hu hw)

theorem WriteKeeps.performWrite {w : Work} (hw : P w.st) {r : Reg} {data : Word}
    (hc : writeRefusal w.st r data = none) : P (performWrite r data w).1.st := by
  cases r with
  | action => exact h.doAction hw hc
  | arm => exact h.arm _ _ hc hw
  | disarm => exact h.disarm _ _ hc hw
  | complete => exact h.complete_st hw hc
  | raise => exact hw
  | release =>
    show P (doRelease data.toNat w).st
    unfold doRelease
    dsimp only
    split
    · exact h.writeRecord (h.release _ _ hw) _ _ _
    · exact hw
  | _ => exact h.put _ _ _ hc hw

theorem WriteKeeps.refuse_st {w : Work} (hw : P w.st) (reason : Reason) (index : Byte) :
    P (Machine.refuse reason index w).1.st := h.refuse _ _ _ hw

theorem WriteKeeps.executeWrite {w : Work} (hw : P w.st) (index : Byte) (r : Reg) (data : Word) :
    P (executeWrite index r data w).1.st := by
  unfold Machine.executeWrite
  split
  · exact h.refuse_st hw _ _
  · next hc => exact h.performWrite hw hc

end

section
variable {P : State → Prop} (h : RequestKeeps P)
include h

theorem RequestKeeps.executeClaim {w : Work} (hw : P w.st) (index : Byte) : P (executeClaim index w).1.st := by
  unfold Machine.executeClaim
  split
  · exact h.refuse_st hw _ _
  split
  · next ht => exact h.writeRecord (h.announce _ ht hw) _ _ _
  split
  · next e he =>
    show P (claimCandidate e.source w).st
    rw [claimCandidate_eq]
    exact h.writeRecord (h.claim _ e he hw) _ _ _
  · exact hw

theorem RequestKeeps.executeRead {w : Work} (hw : P w.st) (index : Byte) (r : Reg) :
    P (executeRead index r w).1.st := by
  cases r with
  | claim => exact h.executeClaim hw index
  | lockrec => exact h.seen _ hw
  | timeHi => exact h.snapshot _ hw
  | _ => exact hw

theorem RequestKeeps.executeRequest {w : Work} (hw : P w.st) (s0 : State) (r : Request) (reg : Reg) :
    P (executeRequest s0 r reg w).1.st := by
  unfold Machine.executeRequest
  split
  · exact hw
  · exact h.executeRead hw _ _
  · exact h.hold _ _ hw
  · split
    · exact hw
    · exact h.executeWrite hw _ _ _

theorem RequestKeeps.finish {w : Work} (hw : P w.st) : P (finish w) := h.settle _ (h.tick.engine.drain hw)

theorem RequestKeeps.recordReply {s : State} (hs : P s) (r : Request) (reply : Reply) :
    P (recordReply r reply s) := by
  have hr := h.record _ { outcome := reply.outcome, tag := r.tag, data := reply.data } hs
  unfold Machine.recordReply
  dsimp only
  split
  · unfold loadWatchdog
    exact h.tick.watchdog _ _ hr
  · exact hr

theorem RequestKeeps.admitFrame {s : State} (hs : P s) (r : Request) (reg : Reg) : P (admitFrame r reg s) := by
  rw [admitFrame_eq]
  refine h.finish ?_
  have hx : P (Machine.executeRequest s r reg ((begin s).map endHold)).1.st :=
    h.executeRequest (w := (begin s).map endHold) (h.hold _ _ hs) s r reg
  unfold raiseOccurrence
  split
  · exact h.tick.engine.occur (h.recordReply hx _ _) (by decide) _
  · exact h.recordReply hx _ _

theorem RequestKeeps.rejectFrame {s : State} (hs : P s) (cause : FrameOutcome) (tag : BitVec 4) (index : Byte) :
    P (rejectFrame cause tag index s) := by
  unfold Machine.rejectFrame
  refine h.finish (h.tick.engine.occur ?_ (by decide) _)
  exact h.reject _ _ _ _ hs

theorem RequestKeeps.completeFrame {s : State} (hs : P s) (lengthOk : Bool) (f : Frame48) :
    P (completeFrame lengthOk f s) := by
  unfold Machine.completeFrame
  dsimp only
  split
  · exact h.rejectFrame hs _ _ _
  split
  · exact h.rejectFrame hs _ _ _
  split
  · exact h.rejectFrame hs _ _ _
  split
  · exact hs
  split
  · exact h.admitFrame hs _ _
  split
  · exact h.rejectFrame hs _ _ _
  · exact h.admitFrame hs _ _

end

/-- The property says nothing of the link unit, the resets and the queue, and is kept by every update that a command
makes. -/
structure CommandKeeps (P : State → Prop) : Prop extends RequestKeeps P where
  outside  : ∀ s p l r, P s → P { s with pending := p, link := l, rst := r }
  identity : ∀ s n c, P s → P { s with mc := { s.mc with nodeId := n, resetCause := c } }
  reset    : ∀ s powerOn, P (hardReset powerOn s)
  sample   : ∀ s lines readback, P s → P (sampleInputs lines readback (advanceCounter s))

section
variable {P : State → Prop} (h : CommandKeeps P)
include h

theorem CommandKeeps.link {s : State} (hs : P s) (l : LinkUnit) : P { s with link := l } :=
  h.outside s s.pending l s.rst hs

theorem CommandKeeps.lselRise {s : State} (hs : P s) : P (lselRise s) := by
  unfold Machine.lselRise
  dsimp only
  split
  · exact h.link hs _
  · exact h.link hs _
  · split <;> exact h.link hs _
  · split
    · exact h.link hs _
    · exact h.completeFrame (h.link hs _) _ _

/-- A command that changes the link unit only. -/
theorem CommandKeeps.of_link {s t : State} (hs : P s) (e : t = { s with link := t.link }) : P t := by
  rw [e]
  exact h.link hs _

theorem CommandKeeps.hostFrame {s : State} (hs : P s) (m : Nat) (f : Frame48) : P (hostFrame m f s) :=
  h.lselRise (h.of_link (h.of_link hs (lselFall_eq s)) (receiveRest_eq m f _))

theorem CommandKeeps.idleTimeout {s : State} (hs : P s) : P (idleTimeout s) := by
  unfold Machine.idleTimeout
  split
  · exact h.rejectFrame (h.link hs _) _ _ _
  · exact hs

theorem CommandKeeps.endInterval {s : State} (hs : P s) : P (endInterval s) := by
  unfold Machine.endInterval
  dsimp only
  split <;> exact h.outside s s.pending _ _ hs

theorem CommandKeeps.scanTick {s : State} (hs : P s) (lines : BitVec 24) (readback : Word) :
    P (scanTick lines readback s) := by
  unfold Machine.scanTick
  split
  · exact hs
  have ht : P (tickHappening lines readback s) := h.tick.tickHappening (h.sample _ _ _ hs) h.settle
  have hc : P (countInterval (tickHappening lines readback s)) := by
    unfold countInterval
    split
    · exact ht
    split
    · exact h.endInterval ht
    · exact h.outside _ _ _ _ ht
  unfold countIdle
  split
  · dsimp only
    split
    · exact h.idleTimeout (h.link hc _)
    · exact h.link hc _
  · exact hc

/-- A property of `CommandKeeps` is kept by every command. -/
theorem CommandKeeps.exec {s t : State} {c : Instr} (hs : P s) (hx : Machine.exec c s = .next t) : P t := by
  cases hf : frameOf c with
  | some r =>
    obtain rfl := Host.Outcome.next.inj ((exec_of_frameOf hf s).symm.trans hx)
    exact h.hostFrame hs _ _
  | none =>
    have keep {u : State} (e : Machine.exec c s = .next u) (hu : P u) : P t := by
      obtain rfl := Host.Outcome.next.inj (e.symm.trans hx)
      exact hu
    cases c with
    | powerOnReset => exact keep rfl (h.reset s true)
    | pinReset => exact keep rfl (h.reset s _)
    | hardResetRelease ida idb =>
      refine keep rfl ?_
      split
      · have hid := h.identity s (strapId ida idb) (if s.rst.powerOnSeen then .powerOn else .pin) hs
        exact h.outside _ s.pending _ _ hid
      · exact hs
    | resetIntervalEnd =>
      refine keep rfl ?_
      split
      · exact hs
      · exact h.endInterval hs
    | lselFall => exact keep rfl (h.of_link hs (lselFall_eq s))
    | lselRise => exact keep rfl (h.lselRise hs)
    | nullFrame => exact keep rfl (h.hostFrame hs 0 0)
    | frameRejection m f => exact keep rfl (h.hostFrame hs m f)
    | idleTimeout => exact keep rfl (h.idleTimeout hs)
    | lckRisingEdge ldi => exact keep rfl (h.of_link hs (lckRise_eq ldi s))
    | lckFallingEdge => exact keep rfl (h.of_link hs (lckFall_eq s))
    | scanTick lines readback => exact keep rfl (h.scanTick hs lines readback)
    | serviceDeadlineExpiry =>
      refine keep rfl ?_
      split
      · split
        · exact hs
        · exact h.finish (h.tick.expireService (w := begin s) hs _)
      · exact hs
    | nestedOverrun =>
      refine keep rfl ?_
      split
      · split
        · exact h.finish (h.tick.expireNested (w := begin s) hs _)
        · exact hs
      · exact hs
    | claimDeadlineExpiry source =>
      refine keep rfl ?_
      split
      · next hd => exact h.finish (h.tick.expireClaim (w := begin s) hs (mem_of_claimDeadline_runs hd.2.2))
      · exact hs
    | watchdogExpiry =>
      refine keep rfl ?_
      split
      · exact h.finish (h.tick.expireWatchdog (w := begin s) hs)
      · exact hs
    | _ => cases hf

/-- A property of `CommandKeeps` is kept by every step. -/
theorem CommandKeeps.step {s t : State} (hs : P s) (hx : Machine.step s = .next t) : P t := by
  unfold Machine.step at hx
  split at hx
  · exact Host.Outcome.next.inj hx ▸ hs
  · exact h.exec (h.outside s _ s.link s.rst hs) hx

end

end Sys2Proof.Machine
end

section
/-! PROOFS. The bounds of the stack and of the journal, the two sources that stay armed, and the pins: the bounds are kept
by every update of `CommandKeeps`, and the pins are set where a happening ends; then O56. -/

namespace Sys2Proof.Machine

-- one proof after another: each thread that elaborates costs the check a GiB of its memory limit
set_option Elab.async false

/-! ## The bounds -/

/-- The stack and the journal within their limits, and OVERRUN and COMPOUND armed (R78, R96, R155). -/
structure State.Bounded (s : State) : Prop where
  depth  : s.svc.stack.length ≤ Config.stackLimit
  unread : s.jn.unread.length ≤ Config.journalLimit
  armed  : ∀ i : SourceId, i = overrunId ∨ i = compoundId → (s.src i).armed = true

theorem State.AtRest.bounded {s : State} (h : s.AtRest) : s.Bounded where
  depth := h.depth
  unread := h.unread
  armed := by
    rintro i (rfl | rfl)
    · exact h.overrun
    · exact h.compound

/-- The bounds are kept where neither the stack nor the journal grows and no source is disarmed. -/
theorem State.Bounded.of_le {s t : State} (h : s.Bounded) (hs : t.svc.stack.length ≤ s.svc.stack.length)
    (hu : t.jn.unread.length ≤ s.jn.unread.length) (ha : KeepsArmed s t) : t.Bounded where
  depth := hs.trans h.depth
  unread := hu.trans h.unread
  armed := fun i hi => ha i (h.armed i hi)

/-- The bounds are kept where neither the stack nor the journal nor the source table changes. -/
theorem State.Bounded.of_eq {s t : State} (h : s.Bounded) (hs : t.svc.stack = s.svc.stack)
    (hu : t.jn.unread = s.jn.unread) (ha : t.srcs.table = s.srcs.table) : t.Bounded :=
  h.of_le (by rw [hs]) (by rw [hu]) fun i hi => by rw [State.src, ha]; exact hi

theorem keepsArmed_markHold (n : Byte) (s : State) : KeepsArmed s (markHold n s) := (sealKept_markHold n s).armed

theorem keepsArmed_latchState (i : SourceId) (detail : Word) (s : State) :
    KeepsArmed s (latchState i detail s) := by
  unfold latchState
  refine KeepsArmed.trans (KeepsArmed.trans ?_ (keepsArmed_takePosition _ _)) (keepsArmed_joinPending _ _)
  exact keepsArmed_setSrc fun h => h

theorem keepsArmed_absorbState (i : SourceId) (detail : Word) (s : State) :
    KeepsArmed s (absorbState i detail s) := by
  unfold absorbState
  refine KeepsArmed.trans ?_ (keepsArmed_takePosition _ _)
  exact keepsArmed_setSrc fun _ => rfl

theorem keepsArmed_pushState (first second : SourceId) (s : State) : KeepsArmed s (pushState first second s) :=
  keepsArmed_setSrc (i := compoundId)
    (x := { s.src compoundId with state := .serving, detail := compoundPair first second }) fun _ => rfl

theorem keepsArmed_claimState (i : SourceId) (s : State) : KeepsArmed s (claimState i s) :=
  keepsArmed_setSrc (i := i)
    (x := { s.src i with
      state := .serving, count := 0, repeatCount := 0, latch := none, overrun := false, expired := false })
    fun _ => rfl

theorem bounded_engine : EngineKeeps State.Bounded where
  journal := fun s u lost hu h => ⟨h.depth, hu h.unread, h.armed⟩
  bind := fun s k i h => h.of_eq rfl rfl rfl
  lock := fun s _ _ h => h.of_eq rfl rfl rfl
  mask := fun s i h => by
    rw [selfMask_eq]
    exact h.of_eq rfl rfl rfl
  latch := fun s i detail _ _ _ h =>
    h.of_le (Nat.le_refl _) (Nat.le_refl _) (keepsArmed_latchState i detail s)
  push := fun s i detail top rest _ _ _ _ _ hl h =>
    ⟨hl, h.unread, fun j hj =>
      keepsArmed_pushState top.source i _ j (keepsArmed_absorbState i detail s j (h.armed j hj))⟩
  full := fun s i detail _ _ _ _ _ h =>
    h.of_le (Nat.le_refl _) (Nat.le_refl _) (keepsArmed_absorbState i detail s)
  count := fun s i detail _ _ _ h => h.of_le (Nat.le_refl _) (Nat.le_refl _) (keepsArmed_setSrc fun a => a)
  again := fun s i detail _ _ _ h => h.of_le (Nat.le_refl _) (Nat.le_refl _) (keepsArmed_setSrc fun a => a)

/-- Another deadline of the top leaves the depth of the stack. -/
@[simp] theorem length_mapTop (f : StackEntry → StackEntry) (l : List StackEntry) : (mapTop f l).length = l.length := by
  cases l <;> rfl

/-- The readback comparison changes the actuation unit and the hold only (R147 to R149). -/
theorem compareReadback_eq (s : State) :
    compareReadback s = { s with act := (compareReadback s).act, link := (compareReadback s).link } := by
  unfold compareReadback
  dsimp only
  split
  · rfl
  · rw [markHold_eq]

theorem bounded_tick : TickKeeps State.Bounded where
  engine := bounded_engine
  compare := fun s h => by
    rw [compareReadback_eq]
    exact h.of_eq rfl rfl rfl
  top := fun s d h => h.of_le (length_mapTop _ _).le (Nat.le_refl _) (.refl _)
  overrun := fun s i h => h.of_le (Nat.le_refl _) (Nat.le_refl _) (keepsArmed_setSrc fun a => a)
  entry := fun s i d h => h.of_eq rfl rfl rfl
  expired := fun s i h => h.of_le (Nat.le_refl _) (Nat.le_refl _) (keepsArmed_setSrc fun a => a)
  watchdog := fun s o h => h.of_eq rfl rfl rfl

/-- A claimable entry finds room on the stack (R90). -/
theorem length_of_claimable {s : State} {i : SourceId} (h : s.claimable i = true) :
    s.svc.stack.length < Config.stackLimit := by
  by_contra hn
  simp [State.claimable, hn] at h

/-- The candidate stands in the list and is claimable (R90). -/
theorem candidate_spec {s : State} {e : PendEntry} (h : s.candidate = some e) :
    e ∈ s.arb.waiting ∧ s.claimable e.source = true :=
  ⟨List.mem_of_find?_eq_some h, by simpa using List.find?_some h⟩

/-- The reset state's bounds (R55, R56). -/
theorem bounded_hardReset (s : State) (powerOn : Bool) : (hardReset powerOn s).Bounded where
  depth := Nat.zero_le _
  unread := Nat.zero_le _
  armed := by
    rintro i (rfl | rfl) <;> rfl

theorem keepsArmed_putReg (r : Reg) (data : Word) (s : State) : KeepsArmed s (putReg r data s) := by
  cases r with
  | desc i w =>
    refine keepsArmed_setSrc fun h => ?_
    unfold writeDescriptor
    split <;> exact h
  | _ => exact fun _ h => h

/-- A source after a Reinit (R48). -/
theorem src_reinitialise (s : State) (i : SourceId) :
    (reinitialise s).src i =
      { (s.src i).cleared with state := if i = compoundId ∨ i = overrunId then .quiet else .disarmed } := by
  have hs : (reinitialise s).srcs = (disarmSources (clearEvents s)).srcs := rfl
  rw [State.src, hs]
  exact src_disarmSources (clearEvents s) i

/-- A source after a Recover (R47). -/
theorem src_recoverEvents (s : State) (i : SourceId) :
    (recoverEvents s).src i =
      { (s.src i).cleared with state := if (s.src i).state = .disarmed then .disarmed else .quiet } := by
  have hs : (recoverEvents s).srcs = (quietSources (clearEvents s)).srcs := rfl
  rw [State.src, hs]
  exact src_quietSources (clearEvents s) i

/-- What becomes of a completed source leaves the stack and the journal as they are (R106). -/
theorem settleCompleted_units (i : SourceId) (s : State) :
    (settleCompleted i s).svc = s.svc ∧ (settleCompleted i s).jn = s.jn := by
  unfold settleCompleted
  split
  · unfold releaseAbsorbed
    dsimp only
    split <;> simp
  · split <;> simp [relatch]

theorem bounded_command : CommandKeeps State.Bounded where
  tick := bounded_tick
  outside := fun s _ _ _ h => h.of_eq rfl rfl rfl
  hold := fun _ _ h => h.of_eq rfl rfl rfl
  record := fun _ _ h => h.of_eq rfl rfl rfl
  reject := fun _ _ _ _ h => h.of_eq rfl rfl rfl
  identity := fun s _ _ h => h.of_eq rfl rfl rfl
  reset := bounded_hardReset
  sample := fun s _ _ h => h.of_eq rfl rfl rfl
  settle := fun s h => h.of_eq rfl rfl rfl
  refuse := fun s _ _ h => h.of_eq rfl rfl rfl
  seen := fun s h => h.of_eq rfl rfl rfl
  snapshot := fun s h => h.of_eq rfl rfl rfl
  claim := fun s e he h =>
    ⟨length_of_claimable (candidate_spec he).2, h.unread, fun j hj =>
      keepsArmed_claimState e.source s j (h.armed j hj)⟩
  announce := fun s _ h => h.of_le (length_mapTop _ _).le (Nat.le_refl _) (.refl _)
  put := fun s r data _ h => by
    refine h.of_le ?_ ?_ (keepsArmed_putReg r data s) <;> cases r <;> exact Nat.le_refl _
  arm := fun s data _ h => by
    unfold armSource
    split
    · exact h
    · exact h.of_le (Nat.le_refl _) (Nat.le_refl _) (keepsArmed_setSrc fun _ => rfl)
  disarm := fun s data hc h => by
    obtain ⟨hn, ho, -⟩ := accepted_disarm hc
    unfold disarmSource
    split
    · refine ⟨h.depth, h.unread, fun j hj => ?_⟩
      rw [src_setSrc_ne]
      · exact h.armed j hj
      · rintro rfl
        exact hj.elim ho hn
    · exact h
  complete := fun s data _ h => by
    have hp : (popStack s).Bounded :=
      h.of_le (by rw [popStack_svc_stack, List.length_drop]; omega) (Nat.le_refl _) (.refl _)
    have hs := settleCompleted_units (namedSource data) (popStack s)
    exact hp.of_le (by rw [hs.1]) (by rw [hs.2]) (keepsArmed_settleCompleted _ _)
  release := fun s k h => h.of_eq rfl rfl rfl
  start := fun s _ h => h.of_eq rfl rfl rfl
  stop := fun s _ _ _ h => h.of_eq rfl rfl rfl
  recover := fun s _ h =>
    ⟨Nat.zero_le _, h.unread, fun j hj => by
      rw [src_recoverEvents, ← src_quietSources]
      exact (sealKept_quietSources s).armed j (h.armed j hj)⟩
  reinit := fun s _ _ => by
    refine ⟨Nat.zero_le _, Nat.zero_le _, fun j hj => ?_⟩
    rw [src_reinitialise]
    rcases hj with rfl | rfl <;> rfl
  sealing := fun s h => h.of_eq rfl rfl rfl
  taken := fun s n _ h => h.of_le (Nat.le_refl _) (by simp [putTaken]) (.refl _)

/-! ## The pins -/

/-- The pins stand at the effective levels and at the alert condition (R91, R144). -/
structure State.PinsSet (s : State) : Prop where
  effective : s.act.effective = s.effectiveWord
  alert     : s.arb.alert = s.alertCondition

theorem State.AtRest.pinsSet {s : State} (h : s.AtRest) : s.PinsSet := ⟨h.effective, h.alert⟩

theorem State.Bounded.atRest {s : State} (h : s.Bounded) (hp : s.PinsSet) : s.AtRest :=
  ⟨h.depth, h.unread, h.armed _ (.inl rfl), h.armed _ (.inr rfl), hp.effective, hp.alert⟩

/-- The end-of-happening updates set the pins (R92). -/
theorem pinsSet_endHappening (s : State) : (endHappening s).PinsSet := ⟨rfl, rfl⟩

theorem pinsSet_finish (w : Work) : (finish w).PinsSet := pinsSet_endHappening _

theorem pinsSet_rejectFrame (cause : FrameOutcome) (tag : BitVec 4) (index : Byte) (s : State) :
    (rejectFrame cause tag index s).PinsSet := pinsSet_finish _

theorem pinsSet_admitFrame (r : Request) (reg : Reg) (s : State) : (admitFrame r reg s).PinsSet := pinsSet_finish _

/-- The pins do not depend on the link unit, the resets and the queue. -/
theorem State.PinsSet.outside {s : State} (h : s.PinsSet) (p : List Instr) (l : LinkUnit) (r : ResetUnit) :
    State.PinsSet { s with pending := p, link := l, rst := r } := ⟨h.effective, h.alert⟩

theorem State.PinsSet.of_link {s t : State} (h : s.PinsSet) (e : t = { s with link := t.link }) : t.PinsSet := by
  rw [e]
  exact h.outside s.pending _ s.rst

theorem pinsSet_completeFrame {s : State} (h : s.PinsSet) (lengthOk : Bool) (f : Frame48) :
    (completeFrame lengthOk f s).PinsSet := by
  unfold completeFrame
  dsimp only
  split
  · exact pinsSet_rejectFrame _ _ _ s
  split
  · exact pinsSet_rejectFrame _ _ _ s
  split
  · exact pinsSet_rejectFrame _ _ _ s
  split
  · exact h
  split
  · exact pinsSet_admitFrame _ _ s
  split
  · exact pinsSet_rejectFrame _ _ _ s
  · exact pinsSet_admitFrame _ _ s

theorem pinsSet_lselRise {s : State} (h : s.PinsSet) : (lselRise s).PinsSet := by
  unfold lselRise
  dsimp only
  split
  · exact h.of_link rfl
  · exact h.of_link rfl
  · split <;> exact h.of_link rfl
  · split
    · exact h.of_link rfl
    · exact pinsSet_completeFrame (h.of_link rfl) _ _

theorem pinsSet_hostFrame {s : State} (h : s.PinsSet) (m : Nat) (f : Frame48) : (hostFrame m f s).PinsSet :=
  pinsSet_lselRise ((h.of_link (lselFall_eq s)).of_link (receiveRest_eq m f _))

theorem pinsSet_idleTimeout {s : State} (h : s.PinsSet) : (idleTimeout s).PinsSet := by
  unfold idleTimeout
  split
  · exact pinsSet_rejectFrame _ _ _ _
  · exact h

theorem pinsSet_endInterval {s : State} (h : s.PinsSet) : (endInterval s).PinsSet := by
  unfold endInterval
  dsimp only
  split <;> exact h.outside s.pending _ _

theorem pinsSet_scanTick {s : State} (h : s.PinsSet) (lines : BitVec 24) (readback : Word) :
    (scanTick lines readback s).PinsSet := by
  unfold scanTick
  split
  · exact h
  have ht : (tickHappening lines readback s).PinsSet := pinsSet_finish _
  have hc : (countInterval (tickHappening lines readback s)).PinsSet := by
    unfold countInterval
    split
    · exact ht
    split
    · exact pinsSet_endInterval ht
    · exact ht.outside _ _ _
  unfold countIdle
  split
  · dsimp only
    split
    · exact pinsSet_idleTimeout (hc.of_link rfl)
    · exact hc.of_link rfl
  · exact hc

/-- With every level at 0 the outputs of a node in Configuring are at 0 (R50, R143). -/
theorem pinsSet_hardReset (powerOn : Bool) (s : State) : (hardReset powerOn s).PinsSet := by
  refine ⟨word_ext fun c => ?_, rfl⟩
  rw [State.effectiveWord, getLsbD_wordOf]
  show (0#16).getLsbD c.val = (0#16).getLsbD c.val
  rfl

/-- Every command leaves the pins set, where they were. -/
theorem pinsSet_exec {s t : State} {c : Instr} (h : s.PinsSet) (hx : exec c s = .next t) : t.PinsSet := by
  cases hf : frameOf c with
  | some r =>
    obtain rfl := Host.Outcome.next.inj ((exec_of_frameOf hf s).symm.trans hx)
    exact pinsSet_hostFrame h _ _
  | none =>
    have keep {u : State} (e : exec c s = .next u) (hu : u.PinsSet) : t.PinsSet := by
      obtain rfl := Host.Outcome.next.inj (e.symm.trans hx)
      exact hu
    cases c with
    | powerOnReset => exact keep rfl (pinsSet_hardReset true s)
    | pinReset => exact keep rfl (pinsSet_hardReset _ s)
    | hardResetRelease ida idb =>
      refine keep rfl ?_
      split
      · exact ⟨h.effective, h.alert⟩
      · exact h
    | resetIntervalEnd =>
      refine keep rfl ?_
      split
      · exact h
      · exact pinsSet_endInterval h
    | lselFall => exact keep rfl (h.of_link (lselFall_eq s))
    | lselRise => exact keep rfl (pinsSet_lselRise h)
    | nullFrame => exact keep rfl (pinsSet_hostFrame h 0 0)
    | frameRejection m f => exact keep rfl (pinsSet_hostFrame h m f)
    | idleTimeout => exact keep rfl (pinsSet_idleTimeout h)
    | lckRisingEdge ldi => exact keep rfl (h.of_link (lckRise_eq ldi s))
    | lckFallingEdge => exact keep rfl (h.of_link (lckFall_eq s))
    | scanTick lines readback => exact keep rfl (pinsSet_scanTick h lines readback)
    | serviceDeadlineExpiry =>
      refine keep rfl ?_
      split
      · split
        · exact h
        · exact pinsSet_finish _
      · exact h
    | nestedOverrun =>
      refine keep rfl ?_
      split
      · split
        · exact pinsSet_finish _
        · exact h
      · exact h
    | claimDeadlineExpiry source =>
      refine keep rfl ?_
      split
      · exact pinsSet_finish _
      · exact h
    | watchdogExpiry =>
      refine keep rfl ?_
      split
      · exact pinsSet_finish _
      · exact h
    | _ => cases hf

/-- Every step keeps the pins and the bounds. -/
theorem atRest_step {s t : State} (h : s.AtRest) (hx : step s = .next t) : t.AtRest := by
  refine (bounded_command.step h.bounded hx).atRest ?_
  unfold step at hx
  split at hx
  · exact Host.Outcome.next.inj hx ▸ h.pinsSet
  · exact pinsSet_exec (h.pinsSet.outside _ s.link s.rst) hx

/-! ## What the pins show -/

/-- Some active set gives the channel an action exactly where the channel's field of an active set has its code (R139,
R143). -/
theorem someActive_iff (s : State) (c : Channel) (a : Action) :
    s.someActive c a = true ↔ ∃ k : SetId, (s.set k).binding ≠ none ∧ (s.set k).action c = a := by
  simp only [State.someActive, List.any_eq_true, Bool.and_eq_true, beq_iff_eq, ReactionSet.active,
    Option.isSome_iff_ne_none]
  constructor
  · rintro ⟨x, hx, hb, ha⟩
    obtain ⟨n, hn, rfl⟩ := List.getElem_of_mem hx
    have hn' : n < 7 := by simpa using hn
    refine ⟨⟨n, hn'⟩, ?_⟩
    have he : s.set ⟨n, hn'⟩ = s.act.sets.toList[n] := by simp [State.set, Vector.get]
    rw [he]
    exact ⟨hb, ha⟩
  · rintro ⟨k, hb, ha⟩
    refine ⟨s.set k, ?_, hb, ha⟩
    simp [State.set, Vector.get]

/-- The code of an action other than Pass is the only one that names it (R139). -/
theorem actionOf_eq_safe (c : BitVec 2) : actionOf c = .safe ↔ c = 2 := by revert c; decide

theorem actionOf_eq_freeze (c : BitVec 2) : actionOf c = .freeze ↔ c = 1 := by revert c; decide

/-- The effective level of a channel where the pins stand as they should (R143, R144). -/
theorem effective_getLsbD {s : State} (h : s.PinsSet) (c : Channel) :
    s.act.effective.getLsbD c.val = s.effectiveLevel c := by
  rw [h.effective, State.effectiveWord, getLsbD_wordOf]

/-- The alert condition in the words of R91. -/
theorem alertCondition_iff (s : State) :
    s.alertCondition = true ↔ s.mc.mode = .lockdown
        ∨ (s.mc.mode = .running ∧ ((∃ e ∈ s.arb.waiting, s.claimable e.source = true)
            ∨ ∃ e ∈ s.svc.stack, e.source = compoundId ∧ e.announced = false)) := by
  unfold State.alertCondition
  cases s.mc.mode <;>
    simp [State.candidate, State.unannouncedCompound, List.find?_isSome]

/-- Settles O56: the bounds are a property of `CommandKeeps`, the pins are set at the end of every happening, and the
levels are read off `effectiveLevel`. -/
theorem stepKeepsPinsAndBounds : Obligations.StepKeepsPinsAndBounds := by
  unfold Obligations.StepKeepsPinsAndBounds
  refine ⟨fun s t h hx => atRest_step h hx, fun s h => ?_⟩
  dsimp only
  have gives (c : Channel) : (s.someActive c .safe = true ↔ ∃ k : SetId, (s.set k).binding ≠ none
        ∧ (s.set k).field c = 2) ∧ (s.someActive c .freeze = true ↔ ∃ k : SetId, (s.set k).binding ≠ none
        ∧ (s.set k).field c = 1) := by
    simp only [someActive_iff, ReactionSet.action, actionOf_eq_safe, actionOf_eq_freeze, and_self]
  refine ⟨fun c => ?_, by rw [h.alert, alertCondition_iff]⟩
  obtain ⟨hsafe, hfreeze⟩ := gives c
  simp only [ReactionSet.field] at hsafe hfreeze
  rw [effective_getLsbD h.pinsSet c, ← hsafe, ← hfreeze]
  unfold State.effectiveLevel
  refine ⟨fun hm => ?_, fun hm hs hf => ?_, fun hm hs hf => ?_⟩
  · split
    · rfl
    · next hr => rw [if_pos (hm.resolve_left hr)]
  · rw [if_neg (not_not.mpr hm), if_neg hs, if_pos hf]
  · rw [if_neg (not_not.mpr hm), if_neg hs, if_neg hf]

end Sys2Proof.Machine
end

section
/-! PROOFS. The fields that no write can give another value, and the frozen channels backed by an active set: both are
kept by every update of `CommandKeeps`; then O58. -/

namespace Sys2Proof.Machine

-- one proof after another: each thread that elaborates costs the check a GiB of its memory limit
set_option Elab.async false

/-! ## The frames of the engine's updates -/

theorem frame_bindSet (k : SetId) (i : SourceId) (s : State) : EngineFrame s (bindSet k i s) :=
  (frame_bind k i s).trans (frame_captureFreezes k _)

theorem frame_lockState (lockrec locktick : Word) (s : State) : EngineFrame s (lockState lockrec locktick s) :=
  { EngineFrame.refl s with identity := ⟨rfl, rfl⟩, mode := .inr rfl, words := fun _ => ⟨rfl, rfl, rfl⟩ }

theorem frame_putJournal (u : List Words4) (lost : Byte) (s : State) : EngineFrame s (putJournal u lost s) :=
  { EngineFrame.refl s with jn := rfl, words := fun _ => ⟨rfl, rfl, rfl⟩ }

theorem frame_latchState (i : SourceId) (detail : Word) (s : State) : EngineFrame s (latchState i detail s) := by
  unfold latchState
  refine EngineFrame.trans (EngineFrame.trans ?_ (frame_takePosition _ _)) (frame_joinPending _ _)
  exact frame_setSrc rfl rfl rfl

theorem frame_absorbState (i : SourceId) (detail : Word) (s : State) : EngineFrame s (absorbState i detail s) := by
  unfold absorbState
  refine EngineFrame.trans ?_ (frame_takePosition _ _)
  exact frame_setSrc rfl rfl rfl

theorem frame_pushState (first second : SourceId) (s : State) : EngineFrame s (pushState first second s) := by
  unfold pushState
  refine EngineFrame.trans ?_ (frame_lists _ _ _)
  refine EngineFrame.trans (frame_pushEntry compoundId false s) ?_
  exact frame_setSrc rfl rfl rfl

theorem frame_claimState (i : SourceId) (s : State) : EngineFrame s (claimState i s) := by
  unfold claimState
  refine EngineFrame.trans (t := pushEntry i true { s with
    arb := { s.arb with waiting := s.arb.waiting.filter (·.source != i) }
    svc := { s.svc with claimrec := s.claimRecordOf i } }) ?_ (frame_setSrc rfl rfl rfl)
  exact (frame_lists s _ _).trans (frame_pushEntry _ _ _)

/-- What the engine's work leaves as it was is kept by each of its updates. -/
theorem engineKeeps_frame (s : State) : EngineKeeps (EngineFrame s) where
  journal := fun _ _ _ _ h => h.trans (frame_putJournal _ _ _)
  bind := fun _ _ _ h => h.trans (frame_bindSet _ _ _)
  lock := fun _ _ _ h => h.trans (frame_lockState _ _ _)
  mask := fun _ _ h => h.trans (frame_selfMask _ _)
  latch := fun _ _ _ _ _ _ h => h.trans (frame_latchState _ _ _)
  push := fun _ _ _ _ _ _ _ _ _ _ _ h => (h.trans (frame_absorbState _ _ _)).trans (frame_pushState _ _ _)
  full := fun _ _ _ _ _ _ _ _ h => (h.trans (frame_absorbState _ _ _)).trans (frame_lockState _ _ _)
  count := fun _ _ _ _ _ _ h => h.trans (frame_countOccurrence _ _ _)
  again := fun _ _ _ _ _ _ h => h.trans (frame_countRepeat _ _ _)

/-- A property that follows along the engine's frame is kept by each of its updates. -/
theorem EngineKeeps.of_frame {P : State → Prop} (h : ∀ s t, EngineFrame s t → P s → P t) : EngineKeeps P where
  journal := fun s u lost _ hs => h s _ (frame_putJournal u lost s) hs
  bind := fun s k i hs => h s _ (frame_bindSet k i s) hs
  lock := fun s a b hs => h s _ (frame_lockState a b s) hs
  mask := fun s i hs => h s _ (frame_selfMask i s) hs
  latch := fun s i d _ _ _ hs => h s _ (frame_latchState i d s) hs
  push := fun s i d top _ _ _ _ _ _ _ hs =>
    h s _ ((frame_absorbState i d s).trans (frame_pushState top.source i _)) hs
  full := fun s i d a b _ _ _ hs => h s _ ((frame_absorbState i d s).trans (frame_lockState a b _)) hs
  count := fun s i d _ _ _ hs => h s _ (frame_countOccurrence i d s) hs
  again := fun s i d _ _ _ hs => h s _ (frame_countRepeat i d s) hs

/-! ## The readback comparison -/

/-- The readback comparison leaves the levels, the reaction sets and the frozen channels (R147 to R149). -/
theorem compareReadback_act (s : State) :
    (compareReadback s).act = { s.act with
      counters := (compareReadback s).act.counters
      mismatchSet := (compareReadback s).act.mismatchSet
      mismatchDet := (compareReadback s).act.mismatchDet
      moved := 0 } := by
  unfold compareReadback
  dsimp only
  split
  · rfl
  · rw [markHold_eq]

/-! ## The fixed fields -/

/-- The fixed fields stand in the policy registers, the kind filter, and the words of descriptors and sets. -/
structure SameFields (s t : State) : Prop where
  policy : t.regs.zones = s.regs.zones ∧ t.regs.policy = s.regs.policy ∧ t.regs.silwin = s.regs.silwin
  filter : t.jn.filter = s.jn.filter
  words  : ∀ i : SourceId, (t.src i).w0 = (s.src i).w0 ∧ (t.src i).w1 = (s.src i).w1
  sets   : ∀ k : SetId, (t.set k).wordA = (s.set k).wordA ∧ (t.set k).wordB = (s.set k).wordB

theorem State.FieldsLegal.of_same {s t : State} (h : s.FieldsLegal) (g : SameFields s t) : t.FieldsLegal where
  zones := by rw [g.policy.1]; exact h.zones
  policy := by rw [g.policy.2.1]; exact h.policy
  window := by rw [g.policy.2.1]; exact h.window
  silwin := by rw [g.policy.2.2]; exact h.silwin
  filter := by rw [g.filter]; exact h.filter
  w1 := fun i => by rw [(g.words i).2]; exact h.w1 i
  internal := fun i hi => by rw [(g.words i).1]; exact h.internal i hi
  reaction := fun k => by rw [(g.sets k).1, (g.sets k).2]; exact h.reaction k
  compound := by rw [(g.words compoundId).2]; exact h.compound

theorem SameFields.of_frame {s t : State} (h : EngineFrame s t) : SameFields s t where
  policy := by rw [h.regs]; exact ⟨rfl, rfl, rfl⟩
  filter := by rw [h.jn]
  words := fun i => ⟨(h.words i).1, (h.words i).2.1⟩
  sets := h.sets

/-- The fixed fields are those of `s` where the register file, the kind filter, the sources and the sets are. -/
theorem SameFields.of_units {s t : State} (hr : t.regs = s.regs) (hf : t.jn.filter = s.jn.filter)
    (ht : t.srcs.table = s.srcs.table) (hk : t.act.sets = s.act.sets) : SameFields s t where
  policy := by rw [hr]; exact ⟨rfl, rfl, rfl⟩
  filter := hf
  words := fun i => by rw [State.src, ht]; exact ⟨rfl, rfl⟩
  sets := fun k => by rw [State.set, hk]; exact ⟨rfl, rfl⟩

/-- The fixed fields are those of `s` where the register file, the kind filter and the sets are, and the words of one
source that is replaced. -/
theorem SameFields.of_setSrc {s : State} {i : SourceId} {x : Source} (h0 : x.w0 = (s.src i).w0)
    (h1 : x.w1 = (s.src i).w1) (h2 : x.w2 = (s.src i).w2) : SameFields s (s.setSrc i x) :=
  .of_frame (frame_setSrc h0 h1 h2)

theorem fields_tick : TickKeeps State.FieldsLegal where
  engine := .of_frame fun _ _ g h => h.of_same (.of_frame g)
  compare := fun s h => h.of_same (by
    have ha := compareReadback_act s
    rw [compareReadback_eq]
    exact .of_units rfl rfl rfl (by rw [ha]))
  top := fun _ _ h => h.of_same (.of_units rfl rfl rfl rfl)
  overrun := fun _ _ h => h.of_same (.of_setSrc rfl rfl rfl)
  entry := fun _ _ _ h => h.of_same (.of_units rfl rfl rfl rfl)
  expired := fun _ _ h => h.of_same (.of_setSrc rfl rfl rfl)
  watchdog := fun _ _ h => h.of_same (.of_units rfl rfl rfl rfl)

/-- The fields that no write can change, in the reset state (R55, R58). -/
theorem fields_hardReset (s : State) (powerOn : Bool) : (hardReset powerOn s).FieldsLegal := by
  have hsrc (i : SourceId) : (hardReset powerOn s).src i = resetSource i := by
    show (Vector.ofFn resetSource)[i.val] = resetSource i
    rw [Vector.getElem_ofFn]
  have hset (k : SetId) : (hardReset powerOn s).set k = resetReactionSet := by
    show (Vector.replicate 7 resetReactionSet)[k.val] = resetReactionSet
    rw [Vector.getElem_replicate]
  have hregs : (hardReset powerOn s).regs = State.reset.regs := rfl
  have hjn : (hardReset powerOn s).jn = State.reset.jn := rfl
  refine ⟨by rw [hregs]; decide, by rw [hregs]; decide, by rw [hregs]; decide, by rw [hregs]; decide,
    by rw [hjn]; decide, fun i => ?_, fun i hi => ?_, fun k => ?_, ?_⟩
  · rw [hsrc]; rfl
  · rw [hsrc]
    revert i
    decide
  · rw [hset]; exact ⟨by rfl, by rfl⟩
  · rw [hsrc]; rfl

/-- A descriptor write that passes its checks: the source is Disarmed or one of the two that are always armed, the fixed
fields and the low bits of W1 are kept, and the descriptor of one that is always armed stays valid (R31). -/
theorem accepted_descriptor {s : State} {i : SourceId} {w : Fin 4} {data : Word}
    (hc : descriptorRefusal s i w data = none) :
    ((s.src i).armed = true → i = compoundId ∨ i = overrunId)
    ∧ (isExternal i = false → w = 0 → keepsFixed i data = true)
    ∧ (w = 1 → data.extractLsb' 0 4 = 0)
    ∧ (i = compoundId ∨ i = overrunId → armFault i (writeDescriptor i w data (s.src i)) = none) := by
  unfold descriptorRefusal at hc
  dsimp only at hc
  split at hc
  · cases hc
  next ha =>
  split at hc
  · cases hc
  next hf =>
  split at hc
  · cases hc
  next hl =>
  refine ⟨fun h => ?_, fun hi hw => ?_, fun hw => ?_, fun hs => ?_⟩
  · simpa [h, or_iff_not_imp_left] using ha
  · simpa [hi, hw] using hf
  · simpa [hw] using hl
  · have hsp : (i == compoundId || i == overrunId) = true := by simpa using hs
    rw [if_pos hsp] at hc
    split at hc
    · cases hc
    · assumption

/-- The checks of a descriptor write keep the fixed fields (R31, R67). -/
theorem fields_putDescriptor {s : State} (h : s.FieldsLegal) {i : SourceId} {w : Fin 4} {data : Word}
    (hc : descriptorRefusal s i w data = none) :
    (s.setSrc i (writeDescriptor i w data (s.src i))).FieldsLegal := by
  obtain ⟨-, hfix, hlow, -⟩ := accepted_descriptor hc
  have hx : (writeDescriptor i w data (s.src i)).w1.extractLsb' 0 4 = 0
      ∧ (isExternal i = false → keepsFixed i (writeDescriptor i w data (s.src i)).w0 = true)
      ∧ (i = compoundId → (writeDescriptor i w data (s.src i)).w1.extractLsb' 7 2 =
          if (writeDescriptor i w data (s.src i)).w1.extractLsb' 9 3 = 0 then 0#2 else 1#2) := by
    match w with
    | 0 => exact ⟨h.w1 i, fun hi => hfix hi rfl, fun hi => by subst hi; exact h.compound⟩
    | 1 =>
      refine ⟨?_, h.internal i, ?_⟩
      · by_cases hi : i = compoundId
        · subst hi
          exact (storedW1_reactWhen data).2.2.trans (hlow rfl)
        · simpa [writeDescriptor, storedW1, hi] using hlow rfl
      · rintro rfl
        obtain ⟨h7, h9, -⟩ := storedW1_reactWhen data
        simp only [writeDescriptor, h7, h9]
    | 2 => exact ⟨h.w1 i, h.internal i, fun hi => by subst hi; exact h.compound⟩
    | 3 => exact ⟨h.w1 i, h.internal i, fun hi => by subst hi; exact h.compound⟩
  obtain ⟨hx1, hx0, hxc⟩ := hx
  refine ⟨h.zones, h.policy, h.window, h.silwin, h.filter, fun j => ?_, fun j hj => ?_, h.reaction, ?_⟩
  · rw [src_setSrc]
    split
    · exact hx1
    · exact h.w1 j
  · rw [src_setSrc]
    split
    · next e => subst e; exact hx0 hj
    · exact h.internal j hj
  · rw [src_setSrc]
    split
    · next e => exact hxc e
    · exact h.compound

/-- An accepted Write keeps the fixed fields (R30, R31). -/
theorem fields_putReg {s : State} (h : s.FieldsLegal) {r : Reg} {data : Word} (hc : writeRefusal s r data = none) :
    (putReg r data s).FieldsLegal := by
  have hs := specific_of_accepted hc
  cases r with
  | zones => exact { h with zones := by simpa [specificRefusal, putReg] using hs }
  | policy =>
    simp only [specificRefusal] at hs
    split at hs
    · cases hs
    split at hs
    · cases hs
    · next hp hw =>
      exact { h with
        policy := by simpa [putReg] using hp
        window := by simpa [putReg] using hw }
  | silwin => exact { h with silwin := by simpa [specificRefusal, putReg] using hs }
  | jfilter => exact { h with filter := by simpa [specificRefusal, putReg] using hs }
  | desc i w => exact fields_putDescriptor h hs
  | react k wordB =>
    have hd : hasIllegalField data = false := by
      simp only [specificRefusal] at hs
      split at hs
      · cases hs
      · next hd => exact Bool.eq_false_iff.mpr hd
    refine { h with reaction := fun j => ?_ }
    show hasIllegalField ((s.putSet k _).set j).wordA = false ∧ hasIllegalField ((s.putSet k _).set j).wordB = false
    rw [set_putSet]
    split
    · cases wordB
      · exact ⟨hd, (h.reaction k).2⟩
      · exact ⟨(h.reaction k).1, hd⟩
    · exact h.reaction j
  | _ => exact h.of_same ⟨⟨rfl, rfl, rfl⟩, rfl, fun _ => ⟨rfl, rfl⟩, fun _ => ⟨rfl, rfl⟩⟩

/-- A reaction set after a Recover (R47). -/
theorem set_recoverEvents (s : State) (k : SetId) : (recoverEvents s).set k = { s.set k with binding := none } := by
  have hs : (recoverEvents s).act.sets = (clearReactions s).act.sets := rfl
  rw [State.set, hs]
  exact set_clearReactions s k

/-- A reaction set after a Reinit (R48). -/
theorem set_reinitialise (s : State) (k : SetId) : (reinitialise s).set k = { s.set k with binding := none } := by
  have hs : (reinitialise s).act.sets = (clearReactions s).act.sets := rfl
  rw [State.set, hs]
  exact set_clearReactions s k

theorem sameFields_recoverEvents (s : State) : SameFields s (recoverEvents s) where
  policy := ⟨rfl, rfl, rfl⟩
  filter := rfl
  words := fun i => by rw [src_recoverEvents]; exact ⟨rfl, rfl⟩
  sets := fun k => by rw [set_recoverEvents]; exact ⟨rfl, rfl⟩

theorem sameFields_reinitialise (s : State) : SameFields s (reinitialise s) where
  policy := ⟨rfl, rfl, rfl⟩
  filter := rfl
  words := fun i => by rw [src_reinitialise]; exact ⟨rfl, rfl⟩
  sets := fun k => by rw [set_reinitialise]; exact ⟨rfl, rfl⟩

theorem fields_command : CommandKeeps State.FieldsLegal where
  tick := fields_tick
  outside := fun _ _ _ _ h => h.of_same (.of_units rfl rfl rfl rfl)
  hold := fun _ _ h => h.of_same (.of_units rfl rfl rfl rfl)
  record := fun _ _ h => h.of_same (.of_units rfl rfl rfl rfl)
  reject := fun _ _ _ _ h => h.of_same (.of_units rfl rfl rfl rfl)
  identity := fun _ _ _ h => h.of_same (.of_units rfl rfl rfl rfl)
  reset := fields_hardReset
  sample := fun _ _ _ h => h.of_same (.of_units rfl rfl rfl rfl)
  settle := fun _ h => h.of_same (.of_units rfl rfl rfl rfl)
  refuse := fun _ _ _ h => h.of_same ⟨⟨rfl, rfl, rfl⟩, rfl, fun _ => ⟨rfl, rfl⟩, fun _ => ⟨rfl, rfl⟩⟩
  seen := fun _ h => h.of_same (.of_units rfl rfl rfl rfl)
  snapshot := fun _ h => h.of_same (.of_units rfl rfl rfl rfl)
  claim := fun s e _ h => h.of_same (.of_frame (frame_claimState e.source s))
  announce := fun s _ h => h.of_same (.of_units rfl rfl rfl rfl)
  put := fun _ _ _ hc h => fields_putReg h hc
  arm := fun s data _ h => by
    unfold armSource
    split
    · exact h
    · exact h.of_same (.of_setSrc rfl rfl rfl)
  disarm := fun s data _ h => by
    unfold disarmSource
    split
    · exact h.of_same (.of_setSrc rfl rfl rfl)
    · exact h
  complete := fun s data _ h =>
    have hp : (popStack s).FieldsLegal := h.of_same (.of_units rfl rfl rfl rfl)
    hp.of_same (.of_frame (frame_settleCompleted _ _))
  release := fun s k h => by
    have hk : (s.putSet k { s.set k with binding := none }).FieldsLegal := by
      refine h.of_same ⟨⟨rfl, rfl, rfl⟩, rfl, fun _ => ⟨rfl, rfl⟩, fun j => ?_⟩
      rw [set_putSet]
      split
      · next e => subst e; exact ⟨rfl, rfl⟩
      · exact ⟨rfl, rfl⟩
    exact hk.of_same (.of_units rfl rfl rfl rfl)
  start := fun _ _ h => h.of_same (.of_units rfl rfl rfl rfl)
  stop := fun _ _ _ _ h => h.of_same (.of_units rfl rfl rfl rfl)
  recover := fun s _ h => h.of_same (sameFields_recoverEvents s)
  reinit := fun s _ h => h.of_same (sameFields_reinitialise s)
  sealing := fun _ h => h.of_same ⟨⟨rfl, rfl, rfl⟩, rfl, fun _ => ⟨rfl, rfl⟩, fun _ => ⟨rfl, rfl⟩⟩
  taken := fun _ _ _ h => h.of_same (.of_units rfl rfl rfl rfl)

/-! ## The frozen channels -/

/-- The freezes stand in the reaction sets, the frozen marks and the frozen levels. -/
theorem State.FreezesLegal.of_same {s t : State} (h : s.FreezesLegal) (hk : t.act.sets = s.act.sets)
    (hf : t.act.frozen = s.act.frozen) (hl : t.act.frozenLevel = s.act.frozenLevel) : t.FreezesLegal where
  marks := fun c => by
    rw [hf, h.marks]
    unfold State.someActive
    rw [hk]
  levels := by rw [hf, hl]; exact h.levels

/-- A set that is replaced by one with the same words: which channels some active set freezes. -/
theorem someActive_putSet {s : State} {k : SetId} {x : ReactionSet} (c : Channel) (a : Action) :
    (s.putSet k x).someActive c a = true ↔
      (x.binding ≠ none ∧ x.action c = a) ∨ ∃ j, j ≠ k ∧ (s.set j).binding ≠ none ∧ (s.set j).action c = a := by
  rw [someActive_iff]
  constructor
  · rintro ⟨j, hb, ha⟩
    rw [set_putSet] at hb ha
    by_cases e : k = j
    · simp only [e, if_true] at hb ha
      exact .inl ⟨hb, ha⟩
    · simp only [e, if_false] at hb ha
      exact .inr ⟨j, fun e' => e e'.symm, hb, ha⟩
  · rintro (⟨hb, ha⟩ | ⟨j, hj, hb, ha⟩)
    · exact ⟨k, by rw [set_putSet_self]; exact ⟨hb, ha⟩⟩
    · exact ⟨j, by rw [set_putSet_ne _ (Ne.symm hj)]; exact ⟨hb, ha⟩⟩

/-- The channels that some active set gives an action, by one set and the others. -/
theorem someActive_split (s : State) (k : SetId) (c : Channel) (a : Action) :
    s.someActive c a = true ↔
      ((s.set k).binding ≠ none ∧ (s.set k).action c = a)
        ∨ ∃ j, j ≠ k ∧ (s.set j).binding ≠ none ∧ (s.set j).action c = a := by
  rw [someActive_iff]
  constructor
  · rintro ⟨j, hj⟩
    by_cases e : j = k
    · subst e; exact .inl hj
    · exact .inr ⟨j, e, hj⟩
  · rintro (hk | ⟨j, -, hj⟩)
    · exact ⟨k, hk⟩
    · exact ⟨j, hj⟩

/-- The channels that a set freezes, as a word (R139). -/
theorem getLsbD_freezes (k : ReactionSet) (c : Channel) : k.freezes.getLsbD c.val = true ↔ k.action c = .freeze := by
  rw [ReactionSet.freezes, getLsbD_wordOf, beq_iff_eq]

theorem freezes_bindSet {s : State} (h : s.FreezesLegal) (k : SetId) (i : SourceId) :
    (bindSet k i s).FreezesLegal where
  marks := fun c => by
    show (s.act.frozen ||| ((s.putSet k ((s.set k).bind i)).set k).freezes &&& ~~~s.act.frozen).getLsbD c.val =
      (s.putSet k ((s.set k).bind i)).someActive c .freeze
    have hm := h.marks c
    have hf : ((s.set k).bind i).freezes = (s.set k).freezes := rfl
    have ha : ((s.set k).bind i).action c = (s.set k).action c := rfl
    rw [Bool.eq_iff_iff, someActive_putSet, set_putSet_self, hf, ha]
    rw [Bool.eq_iff_iff, someActive_split s k] at hm
    simp only [BitVec.getLsbD_or, BitVec.getLsbD_and, BitVec.getLsbD_not, c.isLt, decide_true, Bool.true_and,
      Bool.or_eq_true, Bool.and_eq_true, Bool.not_eq_true', getLsbD_freezes, hm]
    have hb : ((s.set k).bind i).binding ≠ none := by simp [ReactionSet.bind]
    cases hz : s.act.frozen.getLsbD c.val with
    | true =>
      have hor := hm.mp hz
      simp only [Bool.true_eq_false, and_false, or_false]
      exact ⟨fun _ => hor.imp_left fun g => ⟨hb, g.2⟩, fun _ => hor⟩
    | false =>
      have hor : ¬_ := fun g => Bool.false_ne_true (hz.symm.trans (hm.mpr g))
      simp only [and_true]
      exact ⟨fun g => .inl ⟨hb, g.resolve_left hor⟩,
        fun g => .inr (g.elim And.right fun e => absurd (.inr e) hor)⟩
  levels := by
    show ((s.act.frozenLevel &&& ~~~(_ &&& ~~~s.act.frozen)) ||| (s.act.effective &&& (_ &&& ~~~s.act.frozen)))
      &&& ~~~(s.act.frozen ||| (_ &&& ~~~s.act.frozen)) = 0
    have hl := h.levels
    ext n hn
    have hb : (s.act.frozenLevel &&& ~~~s.act.frozen)[n] = (0 : Word)[n] := by rw [hl]
    simp only [BitVec.getElem_and, BitVec.getElem_or, BitVec.getElem_not] at hb ⊢
    grind

/-- The frozen marks, the frozen levels and the active sets after a Release (R145). -/
theorem dropSet_frozen (k : SetId) (s : State) :
    (dropSet k s).act.frozen = s.act.frozen &&& (~~~(s.set k).freezes |||
      (s.putSet k { s.set k with binding := none }).stillFrozen) := rfl

theorem dropSet_frozenLevel (k : SetId) (s : State) :
    (dropSet k s).act.frozenLevel = s.act.frozenLevel &&& (~~~(s.set k).freezes |||
      (s.putSet k { s.set k with binding := none }).stillFrozen) := rfl

theorem dropSet_someActive (k : SetId) (s : State) (c : Channel) (a : Action) :
    (dropSet k s).someActive c a = true ↔ ∃ j, j ≠ k ∧ (s.set j).binding ≠ none ∧ (s.set j).action c = a := by
  have h : (dropSet k s).someActive c a = (s.putSet k { s.set k with binding := none }).someActive c a := rfl
  rw [h, someActive_putSet]
  simp

/-- The channels that a Release leaves frozen (R145). -/
theorem dropSet_frozen_getLsbD (k : SetId) (s : State) (c : Channel) :
    (dropSet k s).act.frozen.getLsbD c.val = true ↔ s.act.frozen.getLsbD c.val = true ∧
      ((s.set k).action c ≠ .freeze ∨
        ∃ j, j ≠ k ∧ (s.set j).binding ≠ none ∧ (s.set j).action c = .freeze) := by
  have hs : (s.putSet k { s.set k with binding := none }).someActive c .freeze = (dropSet k s).someActive c .freeze :=
    rfl
  rw [dropSet_frozen]
  simp only [BitVec.getLsbD_or, BitVec.getLsbD_and, BitVec.getLsbD_not, c.isLt, decide_true, Bool.true_and,
    Bool.or_eq_true, Bool.and_eq_true, Bool.not_eq_true', State.stillFrozen, getLsbD_wordOf, hs, dropSet_someActive]
  rw [← Bool.not_eq_true, getLsbD_freezes]

theorem freezes_dropSet {s : State} (h : s.FreezesLegal) (k : SetId) : (dropSet k s).FreezesLegal where
  marks := fun c => by
    have hm := h.marks c
    rw [Bool.eq_iff_iff, someActive_split s k] at hm
    rw [Bool.eq_iff_iff, dropSet_frozen_getLsbD, dropSet_someActive, hm]
    exact ⟨fun ⟨hall, hkeep⟩ => hkeep.elim (fun hf => hall.resolve_left fun g => hf g.2) id,
      fun hothers => ⟨.inr hothers, .inr hothers⟩⟩
  levels := by
    rw [dropSet_frozen, dropSet_frozenLevel]
    generalize (~~~(s.set k).freezes ||| (s.putSet k { s.set k with binding := none }).stillFrozen) = keep
    have hl := h.levels
    ext n hn
    have hb : (s.act.frozenLevel &&& ~~~s.act.frozen)[n] = (0 : Word)[n] := by rw [hl]
    simp only [BitVec.getElem_and, BitVec.getElem_not] at hb ⊢
    grind

/-- With no set active nothing is frozen (R47, R56). -/
theorem freezes_of_none {s : State} (hb : ∀ k : SetId, (s.set k).binding = none) (hf : s.act.frozen = 0)
    (hl : s.act.frozenLevel = 0) : s.FreezesLegal where
  marks := fun c => by
    have : ¬s.someActive c .freeze = true := by
      rw [someActive_iff]
      rintro ⟨k, hk, -⟩
      exact hk (hb k)
    rw [hf, Bool.eq_false_iff.mpr this, BitVec.ofNat_eq_ofNat, BitVec.getLsbD_zero]
  levels := by rw [hl, BitVec.ofNat_eq_ofNat, BitVec.zero_and]

theorem freezes_clearReactions (s : State) : (clearReactions s).FreezesLegal :=
  freezes_of_none (fun k => by rw [set_clearReactions]) rfl rfl

/-- An accepted Write of a set's word is to a set that is not active (R139). -/
theorem freezes_putReg {s : State} (h : s.FreezesLegal) {r : Reg} {data : Word} (hc : writeRefusal s r data = none) :
    (putReg r data s).FreezesLegal := by
  have hs := specific_of_accepted hc
  cases r with
  | react k wordB =>
    have hb : (s.set k).binding = none := by
      simp only [specificRefusal] at hs
      split at hs
      · cases hs
      split at hs
      · cases hs
      · next ha => simpa [ReactionSet.active] using ha
    refine ⟨fun c => ?_, h.levels⟩
    show s.act.frozen.getLsbD c.val = (s.putSet k _).someActive c .freeze
    rw [h.marks, Bool.eq_iff_iff, someActive_putSet, someActive_split s k]
    cases wordB <;> simp [hb]
  | _ => exact h.of_same rfl rfl rfl

theorem freezes_engine : EngineKeeps State.FreezesLegal where
  journal := fun _ _ _ _ h => h.of_same rfl rfl rfl
  bind := fun _ k i h => freezes_bindSet h k i
  lock := fun _ _ _ h => h.of_same rfl rfl rfl
  mask := fun s i h => by
    rw [selfMask_eq]
    exact h.of_same rfl rfl rfl
  latch := fun _ _ _ _ _ _ h => h.of_same rfl rfl rfl
  push := fun _ _ _ _ _ _ _ _ _ _ _ h => h.of_same rfl rfl rfl
  full := fun _ _ _ _ _ _ _ _ h => h.of_same rfl rfl rfl
  count := fun _ _ _ _ _ _ h => h.of_same rfl rfl rfl
  again := fun _ _ _ _ _ _ h => h.of_same rfl rfl rfl

theorem freezes_tick : TickKeeps State.FreezesLegal where
  engine := freezes_engine
  compare := fun s h => by
    have ha := compareReadback_act s
    exact h.of_same (by rw [ha]) (by rw [ha]) (by rw [ha])
  top := fun _ _ h => h.of_same rfl rfl rfl
  overrun := fun _ _ h => h.of_same rfl rfl rfl
  entry := fun _ _ _ h => h.of_same rfl rfl rfl
  expired := fun _ _ h => h.of_same rfl rfl rfl
  watchdog := fun _ _ h => h.of_same rfl rfl rfl

/-- What becomes of a completed source leaves the actuation unit (R106). -/
theorem settleCompleted_act (i : SourceId) (s : State) : (settleCompleted i s).act = s.act := by
  unfold settleCompleted
  split
  · unfold releaseAbsorbed
    dsimp only
    split <;> simp
  · split <;> simp [relatch]

theorem freezes_command : CommandKeeps State.FreezesLegal where
  tick := freezes_tick
  outside := fun _ _ _ _ h => h.of_same rfl rfl rfl
  hold := fun _ _ h => h.of_same rfl rfl rfl
  record := fun _ _ h => h.of_same rfl rfl rfl
  reject := fun _ _ _ _ h => h.of_same rfl rfl rfl
  identity := fun _ _ _ h => h.of_same rfl rfl rfl
  reset := fun s powerOn => by
    refine freezes_of_none (fun k => ?_) rfl rfl
    show ((Vector.replicate 7 resetReactionSet)[k.val]).binding = none
    rw [Vector.getElem_replicate]
    rfl
  sample := fun _ _ _ h => h.of_same rfl rfl rfl
  settle := fun _ h => h.of_same rfl rfl rfl
  refuse := fun _ _ _ h => h.of_same rfl rfl rfl
  seen := fun _ h => h.of_same rfl rfl rfl
  snapshot := fun _ h => h.of_same rfl rfl rfl
  claim := fun _ _ _ h => h.of_same rfl rfl rfl
  announce := fun _ _ h => h.of_same rfl rfl rfl
  put := fun _ _ _ hc h => freezes_putReg h hc
  arm := fun s data _ h => by
    unfold armSource
    split
    · exact h
    · exact h.of_same rfl rfl rfl
  disarm := fun s data _ h => by
    unfold disarmSource
    split
    · exact h.of_same rfl rfl rfl
    · exact h
  complete := fun s data _ h => by
    have ha := settleCompleted_act (namedSource data) (popStack s)
    exact h.of_same (by rw [ha]; rfl) (by rw [ha]; rfl) (by rw [ha]; rfl)
  release := fun _ k h => freezes_dropSet h k
  start := fun _ _ h => h.of_same rfl rfl rfl
  stop := fun _ _ _ _ h => h.of_same rfl rfl rfl
  recover := fun s _ _ => (freezes_clearReactions (quietSources (clearEvents s))).of_same rfl rfl rfl
  reinit := fun s _ _ => (freezes_clearReactions (disarmSources (clearEvents s))).of_same rfl rfl rfl
  sealing := fun _ h => h.of_same rfl rfl rfl
  taken := fun _ _ _ h => h.of_same rfl rfl rfl

/-- Settles O58: both are properties of `CommandKeeps`. -/
theorem stepKeepsFieldsAndFreezes : Obligations.StepKeepsFieldsAndFreezes := by
  unfold Obligations.StepKeepsFieldsAndFreezes
  exact ⟨fun _ _ h hx => fields_command.step h hx, fun _ _ h hx => freezes_command.step h hx⟩

end Sys2Proof.Machine
end

section
/-! PROOFS. The order of the pending list, and the agreement of source states, list and stack through each update of the
engine: the part that holds in every mode, said of the sources, the list and the stack (R79, R83, R86, R87, R96). -/

namespace Sys2Proof.Machine

-- one proof after another: each thread that elaborates costs the check a GiB of its memory limit
set_option Elab.async false

/-! ## The orders -/

/-- The order of the list in arithmetic: rank, then level, then position (R87). -/
theorem standsBefore_iff (s : State) (i j : SourceId) :
    s.standsBefore i j = true ↔ s.rank j < s.rank i ∨ (s.rank i = s.rank j ∧
      (s.level j < s.level i ∨ (s.level i = s.level j ∧ s.position i < s.position j))) := by
  simp [State.standsBefore]

/-- The pair order in arithmetic (R90). -/
theorem pairAbove_iff (s : State) (i j : SourceId) :
    s.pairAbove i j = true ↔ s.rank j < s.rank i ∨ (s.rank i = s.rank j ∧ s.level j < s.level i) := by
  simp [State.pairAbove]

theorem standsBefore_trans {s : State} {i j k : SourceId} (h : s.standsBefore i j = true)
    (g : s.standsBefore j k = true) : s.standsBefore i k = true := by
  rw [standsBefore_iff] at *
  omega

theorem pairAbove_trans {s : State} {i j k : SourceId} (h : s.pairAbove i j = true)
    (g : s.pairAbove j k = true) : s.pairAbove i k = true := by
  rw [pairAbove_iff] at *
  omega

/-- No source stands above itself (R90). -/
theorem ne_of_pairAbove {s : State} {i j : SourceId} (h : s.pairAbove i j = true) : i ≠ j := by
  rintro rfl
  rw [pairAbove_iff] at h
  omega

/-- Of two sources with different positions one stands before the other (R87). -/
theorem standsBefore_total {s : State} {i j : SourceId} (h : s.position i ≠ s.position j) :
    s.standsBefore i j = true ∨ s.standsBefore j i = true := by
  rw [standsBefore_iff, standsBefore_iff]
  omega

/-- The position of a source that holds one. -/
theorem position_of_latch {s : State} {i : SourceId} {l : Latch} (h : (s.src i).latch = some l) :
    s.position i = l.position := by
  simp [State.position, h]

/-- The orders look at the descriptor word W0 and the position of the two sources only. -/
theorem rank_congr {s t : State} {i : SourceId} (h : (t.src i).w0 = (s.src i).w0) : t.rank i = s.rank i := by
  simp [State.rank, Source.cls, Source.classBits, h]

theorem level_congr {s t : State} {i : SourceId} (h : (t.src i).w0 = (s.src i).w0) : t.level i = s.level i := by
  simp [State.level, Source.level, h]

theorem position_congr {s t : State} {i : SourceId} (h : (t.src i).latch = (s.src i).latch) :
    t.position i = s.position i := by
  simp [State.position, h]

theorem pairAbove_congr {s t : State} {i j : SourceId} (hi : (t.src i).w0 = (s.src i).w0)
    (hj : (t.src j).w0 = (s.src j).w0) : t.pairAbove i j = s.pairAbove i j := by
  simp only [State.pairAbove, rank_congr hi, rank_congr hj, level_congr hi, level_congr hj]

theorem standsBefore_congr {s t : State} {i j : SourceId} (hi : (t.src i).w0 = (s.src i).w0)
    (hj : (t.src j).w0 = (s.src j).w0) (li : (t.src i).latch = (s.src i).latch)
    (lj : (t.src j).latch = (s.src j).latch) : t.standsBefore i j = s.standsBefore i j := by
  simp only [State.standsBefore, rank_congr hi, rank_congr hj, level_congr hi, level_congr hj, position_congr li,
    position_congr lj]

/-! ## The place of an entry -/

/-- An entry put in its place joins the entries of the list (R87). -/
theorem mem_insertEntry (s : State) (e p : PendEntry) (l : List PendEntry) :
    p ∈ insertEntry s e l ↔ p = e ∨ p ∈ l := by
  induction l with
  | nil => simp [insertEntry]
  | cons x rest ih =>
    unfold insertEntry
    split
    · simp
    · simp only [List.mem_cons, ih]
      exact or_left_comm

/-- The list stays in order where the entry's source is new and comparable with those of the list (R87). -/
theorem pairwise_insertEntry {s : State} {e : PendEntry} {l : List PendEntry}
    (hl : l.Pairwise fun a b => a.source ≠ b.source ∧ s.standsBefore a.source b.source = true)
    (hn : ∀ x ∈ l, e.source ≠ x.source)
    (ht : ∀ x ∈ l, s.standsBefore e.source x.source = true ∨ s.standsBefore x.source e.source = true) :
    (insertEntry s e l).Pairwise fun a b => a.source ≠ b.source ∧ s.standsBefore a.source b.source = true := by
  induction l with
  | nil => simp [insertEntry]
  | cons x rest ih =>
    obtain ⟨hx, hrest⟩ := List.pairwise_cons.mp hl
    have hen := hn x List.mem_cons_self
    unfold insertEntry
    split
    · next hb =>
      refine List.pairwise_cons.mpr ⟨fun p hp => ⟨hn p hp, ?_⟩, hl⟩
      rcases List.mem_cons.mp hp with rfl | hp
      · exact hb
      · exact standsBefore_trans hb (hx p hp).2
    · next hb =>
      refine List.pairwise_cons.mpr ⟨fun p hp => ?_,
        ih hrest (fun y hy => hn y (List.mem_cons_of_mem _ hy)) fun y hy => ht y (List.mem_cons_of_mem _ hy)⟩
      rcases (mem_insertEntry s e p rest).mp hp with rfl | hp
      · exact ⟨hen.symm, (ht x List.mem_cons_self).resolve_left hb⟩
      · exact hx p hp

/-! ## The agreement in every mode -/

/-- What `EventsAgree` says of a state in every mode: all but what is pending in Configuring and which source is absorbed
in Running. -/
structure State.EventsCore (s : State) : Prop where
  pending : ∀ i : SourceId, (s.src i).state = .pending ↔ i ∈ s.arb.waiting.map (·.source)
  ordered : s.arb.waiting.Pairwise fun a b => a.source ≠ b.source ∧ s.standsBefore a.source b.source = true
  serving : ∀ i : SourceId, (s.src i).state = .serving ↔ i ∈ s.svc.stack.map (·.source)
  nested : s.svc.stack.Pairwise fun a b => s.pairAbove a.source b.source = true
  announced : ∀ e ∈ s.svc.stack, e.source ≠ compoundId → e.announced = true
  norepeat : (s.src compoundId).repeatCount = 0
  compound : (s.src compoundId).state = .quiet ∨ (s.src compoundId).state = .serving
  latched : ∀ i : SourceId, (s.src i).latch.isSome = true ↔
    (s.src i).state = .pending ∨ (s.src i).state = .absorbed
  positions : ∀ i : SourceId, ∀ l, (s.src i).latch = some l → l.position < s.arb.nextPosition
  distinct : ∀ i j : SourceId, i ≠ j → ∀ l m, (s.src i).latch = some l → (s.src j).latch = some m →
    l.position ≠ m.position
  counts : ∀ i : SourceId, (s.src i).count ≠ 0 ↔ (s.src i).state = .pending ∨ (s.src i).state = .absorbed
  repeats : ∀ i : SourceId, (s.src i).repeatCount ≠ 0 → (s.src i).state = .serving

theorem State.EventsAgree.core {s : State} (h : s.EventsAgree) : s.EventsCore :=
  ⟨h.pending, h.ordered, h.serving, h.nested, h.announced, h.norepeat, h.compound, h.latched, h.positions,
    h.distinct, h.counts, h.repeats⟩

/-- In Configuring nothing is pending, in service or absorbed (R39). -/
def State.IdleConfiguring (s : State) : Prop :=
  s.mc.mode = .configuring → s.arb.waiting = [] ∧ s.svc.stack = [] ∧ ∀ i : SourceId, s.busy i = false

/-- In Running a source is absorbed exactly while it is the second source of a COMPOUND entry (R120). -/
def State.AbsorbedPaired (s : State) : Prop :=
  s.mc.mode = .running → ∀ i : SourceId, (s.src i).state = .absorbed ↔
    compoundId ∈ s.svc.stack.map (·.source) ∧ i = sourceOf (s.svc.comprec0.extractLsb' 0 5)

theorem State.EventsCore.agree {s : State} (h : s.EventsCore) (hc : s.IdleConfiguring) (ha : s.AbsorbedPaired) :
    s.EventsAgree :=
  ⟨hc, h.pending, h.ordered, h.serving, h.nested, h.announced, h.norepeat, h.compound, h.latched, h.positions,
    h.distinct, h.counts, h.repeats, ha⟩

/-- A source with no busy state: neither Pending, Serving nor Absorbed. -/
theorem busy_eq_false {s : State} {i : SourceId} :
    s.busy i = false ↔ (s.src i).state ≠ .pending ∧ (s.src i).state ≠ .serving ∧ (s.src i).state ≠ .absorbed := by
  simp [State.busy, and_assoc]

/-! ## Updates that leave the agreement -/

/-- A source as far as the agreement looks at it: the state, up to the difference of Disarmed and Quiet, the place in the
latch order, whether it counts, and the class and level of one that waits or is in service. -/
structure SameSource (x y : Source) : Prop where
  pending  : y.state = .pending ↔ x.state = .pending
  serving  : y.state = .serving ↔ x.state = .serving
  absorbed : y.state = .absorbed ↔ x.state = .absorbed
  latch    : y.latch = x.latch
  count    : y.count = 0 ↔ x.count = 0
  repeats  : y.repeatCount ≠ 0 → x.repeatCount ≠ 0 ∨ x.state = .serving
  w0       : x.state = .pending ∨ x.state = .serving → y.w0 = x.w0

theorem SameSource.refl (x : Source) : SameSource x x :=
  ⟨Iff.rfl, Iff.rfl, Iff.rfl, rfl, Iff.rfl, .inl, fun _ => rfl⟩

/-- Two states as far as the agreement looks at them, apart from the mode and the compound record. -/
structure SameEvents (s t : State) : Prop where
  waiting   : t.arb.waiting.map (·.source) = s.arb.waiting.map (·.source)
  stack     : t.svc.stack.map (·.source) = s.svc.stack.map (·.source)
  announced : (∀ e ∈ s.svc.stack, e.source ≠ compoundId → e.announced = true) →
    ∀ e ∈ t.svc.stack, e.source ≠ compoundId → e.announced = true
  next      : t.arb.nextPosition = s.arb.nextPosition
  source    : ∀ i : SourceId, SameSource (s.src i) (t.src i)
  compound  : (t.src compoundId).state = (s.src compoundId).state
    ∧ (t.src compoundId).repeatCount = (s.src compoundId).repeatCount

/-- The agreement is kept where list, stack, latch order and source table are. -/
theorem SameEvents.of_units {s t : State} (ha : t.arb.waiting = s.arb.waiting)
    (hn : t.arb.nextPosition = s.arb.nextPosition) (hv : t.svc.stack = s.svc.stack)
    (ht : t.srcs.table = s.srcs.table) : SameEvents s t := by
  have src (i : SourceId) : t.src i = s.src i := by rw [State.src, ht]; rfl
  exact ⟨by rw [ha], by rw [hv], by rw [hv]; exact id, hn, fun i => by rw [src]; exact .refl _, by rw [src]; simp⟩

/-- The agreement is kept where one source is replaced by another that looks the same. -/
theorem SameEvents.of_setSrc {s : State} {i : SourceId} {x : Source} (h : SameSource (s.src i) x)
    (hc : i = compoundId → x.state = (s.src i).state ∧ x.repeatCount = (s.src i).repeatCount) :
    SameEvents s (s.setSrc i x) where
  waiting := rfl
  stack := rfl
  announced := id
  next := rfl
  source := fun j => by
    rw [src_setSrc]
    split
    · next e => subst e; exact h
    · exact .refl _
  compound := by
    rw [src_setSrc]
    split
    · next e => subst e; exact hc rfl
    · exact ⟨rfl, rfl⟩

theorem SameEvents.pairwise_stack {s t : State} (g : SameEvents s t) (h : s.EventsCore) :
    t.svc.stack.Pairwise fun a b => t.pairAbove a.source b.source = true := by
  have hs : (s.svc.stack.map (·.source)).Pairwise fun a b => s.pairAbove a b = true :=
    List.pairwise_map.mpr h.nested
  refine (List.pairwise_map (R := fun a b => t.pairAbove a b = true)).mp ?_
  rw [g.stack]
  refine hs.imp_of_mem fun {a b} ha hb hab => ?_
  rw [pairAbove_congr ((g.source a).w0 (.inr ((h.serving a).mpr ha))) ((g.source b).w0 (.inr ((h.serving b).mpr hb)))]
  exact hab

theorem SameEvents.pairwise_waiting {s t : State} (g : SameEvents s t) (h : s.EventsCore) :
    t.arb.waiting.Pairwise fun a b => a.source ≠ b.source ∧ t.standsBefore a.source b.source = true := by
  have hs : (s.arb.waiting.map (·.source)).Pairwise fun a b => a ≠ b ∧ s.standsBefore a b = true :=
    List.pairwise_map.mpr h.ordered
  refine (List.pairwise_map (R := fun a b => a ≠ b ∧ t.standsBefore a b = true)).mp ?_
  rw [g.waiting]
  refine hs.imp_of_mem fun {a b} ha hb hab => ⟨hab.1, ?_⟩
  rw [standsBefore_congr ((g.source a).w0 (.inl ((h.pending a).mpr ha)))
    ((g.source b).w0 (.inl ((h.pending b).mpr hb))) (g.source a).latch (g.source b).latch]
  exact hab.2

theorem State.EventsCore.of_same {s t : State} (h : s.EventsCore) (g : SameEvents s t) : t.EventsCore where
  pending := fun i => by rw [(g.source i).pending, g.waiting]; exact h.pending i
  ordered := g.pairwise_waiting h
  serving := fun i => by rw [(g.source i).serving, g.stack]; exact h.serving i
  nested := g.pairwise_stack h
  announced := g.announced h.announced
  norepeat := g.compound.2.trans h.norepeat
  compound := by rw [g.compound.1]; exact h.compound
  latched := fun i => by
    rw [(g.source i).latch, (g.source i).pending, (g.source i).absorbed]; exact h.latched i
  positions := fun i l hl => by
    rw [(g.source i).latch] at hl
    rw [g.next]
    exact h.positions i l hl
  distinct := fun i j hij l m hl hm => by
    rw [(g.source i).latch] at hl
    rw [(g.source j).latch] at hm
    exact h.distinct i j hij l m hl hm
  counts := fun i => by
    rw [(g.source i).pending, (g.source i).absorbed, ne_eq, (g.source i).count]; exact h.counts i
  repeats := fun i hi => (g.source i).serving.mpr (((g.source i).repeats hi).elim (h.repeats i) id)

/-- What an update of `SameEvents` in the same mode, or into Lockdown, keeps. -/
theorem State.EventsAgree.of_same {s t : State} (h : s.EventsAgree) (g : SameEvents s t)
    (hm : t.mc.mode = s.mc.mode ∨ t.mc.mode = .lockdown) (hr : t.svc.comprec0 = s.svc.comprec0) : t.EventsAgree := by
  have mode {m : Mode} (hn : m ≠ .lockdown) (e : t.mc.mode = m) : s.mc.mode = m := by
    rcases hm with hm | hm
    · exact hm ▸ e
    · exact absurd (e.symm.trans hm) hn
  refine (h.core.of_same g).agree (fun hc => ?_) (fun hrun i => ?_)
  · obtain ⟨hw, hs, hb⟩ := h.configuring (mode (by decide) hc)
    refine ⟨?_, ?_, fun i => ?_⟩
    · have := g.waiting
      rw [hw] at this
      exact List.map_eq_nil_iff.mp this
    · have := g.stack
      rw [hs] at this
      exact List.map_eq_nil_iff.mp this
    · have := hb i
      rw [busy_eq_false] at this ⊢
      rw [ne_eq, ne_eq, ne_eq, (g.source i).pending, (g.source i).serving, (g.source i).absorbed]
      exact this
  · rw [(g.source i).absorbed, g.stack, hr]
    exact h.absorbed (mode (by decide) hrun) i

/-! ## One source goes on to another state -/

/-- Source `i` has become `x`, with its class and level as they were: it has an entry in the list or on the stack as its
new state asks for, both in order, and a place that no other source holds where it needs one. The other sources with
their entries are as they were. -/
structure Replaces (s t : State) (i : SourceId) (x : Source) : Prop where
  src       : ∀ j, t.src j = if i = j then x else s.src j
  w0        : x.w0 = (s.src i).w0
  waiting   : ∀ j, j ∈ t.arb.waiting.map (·.source) ↔
    if i = j then x.state = .pending else j ∈ s.arb.waiting.map (·.source)
  ordered   : t.arb.waiting.Pairwise fun a b => a.source ≠ b.source ∧ t.standsBefore a.source b.source = true
  stack     : ∀ j, j ∈ t.svc.stack.map (·.source) ↔
    if i = j then x.state = .serving else j ∈ s.svc.stack.map (·.source)
  nested    : t.svc.stack.Pairwise fun a b => s.pairAbove a.source b.source = true
  announced : ∀ e ∈ t.svc.stack, e.source ≠ compoundId → e.announced = true
  compound  : i = compoundId → x.repeatCount = 0 ∧ (x.state = .quiet ∨ x.state = .serving)
  latched   : x.latch.isSome = true ↔ x.state = .pending ∨ x.state = .absorbed
  next      : s.arb.nextPosition ≤ t.arb.nextPosition
  place     : ∀ l, x.latch = some l → l.position < t.arb.nextPosition
    ∧ ∀ j, j ≠ i → ∀ m, (s.src j).latch = some m → l.position ≠ m.position
  counts    : x.count ≠ 0 ↔ x.state = .pending ∨ x.state = .absorbed
  repeats   : x.repeatCount ≠ 0 → x.state = .serving

section
variable {s t : State} {i : SourceId} {x : Source}

theorem src_of_replaced (hsrc : ∀ j, t.src j = if i = j then x else s.src j) : t.src i = x := by
  rw [hsrc, if_pos rfl]

theorem src_of_other (hsrc : ∀ j, t.src j = if i = j then x else s.src j) {j : SourceId} (hj : i ≠ j) :
    t.src j = s.src j := by
  rw [hsrc, if_neg hj]

theorem w0_of_replaced (hsrc : ∀ j, t.src j = if i = j then x else s.src j) (hw : x.w0 = (s.src i).w0)
    (j : SourceId) : (t.src j).w0 = (s.src j).w0 := by
  rw [hsrc]
  split
  · next e => subst e; exact hw
  · rfl

/-- Entries of other sources stay in order. -/
theorem ordered_of_replaced (hsrc : ∀ j, t.src j = if i = j then x else s.src j) (hw : x.w0 = (s.src i).w0)
    {l : List PendEntry} (hl : l.Pairwise fun a b => a.source ≠ b.source ∧ s.standsBefore a.source b.source = true)
    (hn : ∀ p ∈ l, i ≠ p.source) :
    l.Pairwise fun a b => a.source ≠ b.source ∧ t.standsBefore a.source b.source = true := by
  refine hl.imp_of_mem fun {a b} ha hb hab => ⟨hab.1, ?_⟩
  rw [standsBefore_congr (w0_of_replaced hsrc hw _) (w0_of_replaced hsrc hw _)
    (by rw [src_of_other hsrc (hn a ha)]) (by rw [src_of_other hsrc (hn b hb)])]
  exact hab.2

theorem State.EventsCore.of_replaced (h : s.EventsCore) (g : Replaces s t i x) : t.EventsCore := by
  have hself := src_of_replaced g.src
  have hother {j : SourceId} (hj : i ≠ j) := src_of_other g.src hj
  have hw0 := w0_of_replaced g.src g.w0
  have hplace {j : SourceId} {m : Latch} (hj : (t.src j).latch = some m) :
      (i = j ∧ x.latch = some m) ∨ (i ≠ j ∧ (s.src j).latch = some m) := by
    by_cases e : i = j
    · rw [← e, hself] at hj
      exact .inl ⟨e, hj⟩
    · rw [hother e] at hj
      exact .inr ⟨e, hj⟩
  exact
    { pending := fun j => by
        rw [g.waiting, g.src]
        split
        · rfl
        · exact h.pending j
      ordered := g.ordered
      serving := fun j => by
        rw [g.stack, g.src]
        split
        · rfl
        · exact h.serving j
      nested := g.nested.imp fun {a b} hab => by rw [pairAbove_congr (hw0 _) (hw0 _)]; exact hab
      announced := g.announced
      norepeat := by
        rw [g.src]
        split
        · next e => exact (g.compound e).1
        · exact h.norepeat
      compound := by
        rw [g.src]
        split
        · next e => exact (g.compound e).2
        · exact h.compound
      latched := fun j => by
        rw [g.src]
        split
        · exact g.latched
        · exact h.latched j
      positions := fun j l hl => by
        rcases hplace hl with ⟨-, hx⟩ | ⟨-, hs⟩
        · exact (g.place l hx).1
        · exact (h.positions j l hs).trans_le g.next
      distinct := fun j k hjk l m hl hm => by
        rcases hplace hl with ⟨rfl, hx⟩ | ⟨hj, hl⟩
        · rcases hplace hm with ⟨rfl, -⟩ | ⟨-, hm⟩
          · exact absurd rfl hjk
          · exact (g.place l hx).2 k hjk.symm m hm
        · rcases hplace hm with ⟨rfl, hx⟩ | ⟨-, hm⟩
          · exact ((g.place m hx).2 j hjk l hl).symm
          · exact h.distinct j k hjk l m hl hm
      counts := fun j => by
        rw [g.src]
        split
        · exact g.counts
        · exact h.counts j
      repeats := fun j => by
        rw [g.src]
        split
        · exact g.repeats
        · exact h.repeats j }

end

/-- The entries in the list are those of Pending sources. -/
theorem State.EventsCore.ne_of_waiting {s : State} (h : s.EventsCore) {i : SourceId}
    (hi : (s.src i).state ≠ .pending) : ∀ p ∈ s.arb.waiting, i ≠ p.source := by
  rintro p hp rfl
  exact hi ((h.pending _).mpr (List.mem_map_of_mem hp))

/-! ## A source joins the list -/

/-- Source `i`, now `x`, joins the list with this deadline, and the next position is this one. -/
def joinState (i : SourceId) (x : Source) (d : Deadline) (next : Nat) (s : State) : State :=
  let z := s.setSrc i x
  { z with arb := { z.arb with
      nextPosition := next, waiting := insertEntry z { source := i, deadline := d } s.arb.waiting } }

theorem src_joinState (i : SourceId) (x : Source) (d : Deadline) (next : Nat) (s : State) (j : SourceId) :
    (joinState i x d next s).src j = if i = j then x else s.src j := src_setSrc s i j x

/-- The entries of the list after a source has joined. -/
theorem mem_joinState (i : SourceId) (x : Source) (d : Deadline) (next : Nat) (s : State) (p : PendEntry) :
    p ∈ (joinState i x d next s).arb.waiting ↔ p = { source := i, deadline := d } ∨ p ∈ s.arb.waiting :=
  mem_insertEntry _ _ _ _

/-- The conditions on which a source can join: it is not COMPOUND, neither waits nor is in service, and takes a place
that no other source holds (R83, R86). -/
structure CanJoin (s : State) (i : SourceId) (x : Source) (l : Latch) (next : Nat) : Prop where
  ne      : i ≠ compoundId
  waiting : (s.src i).state ≠ .pending
  serving : (s.src i).state ≠ .serving
  w0      : x.w0 = (s.src i).w0
  state   : x.state = .pending
  count   : x.count ≠ 0
  repeats : x.repeatCount = 0
  latch   : x.latch = some l
  next    : l.position < next ∧ s.arb.nextPosition ≤ next
  fresh   : ∀ j, j ≠ i → ∀ m, (s.src j).latch = some m → l.position ≠ m.position

theorem eventsCore_join {s : State} (h : s.EventsCore) {i : SourceId} {x : Source} {l : Latch} {next : Nat}
    (c : CanJoin s i x l next) (d : Deadline) : (joinState i x d next s).EventsCore := by
  have hsrc := src_joinState i x d next s
  have hset := fun j => src_setSrc s i j x
  have hnotin := h.ne_of_waiting c.waiting
  refine h.of_replaced
    { src := hsrc
      w0 := c.w0
      waiting := fun j => ?waiting
      ordered := pairwise_insertEntry (s := s.setSrc i x) (e := { source := i, deadline := d })
        (ordered_of_replaced hset c.w0 h.ordered hnotin) hnotin fun p hp => standsBefore_total ?total
      stack := fun j => ?stack
      nested := h.nested
      announced := h.announced
      compound := fun e => absurd e c.ne
      latched := by simp [c.latch, c.state]
      next := c.next.2
      place := fun m hm => by
        rw [c.latch] at hm
        cases hm
        exact ⟨c.next.1, c.fresh⟩
      counts := by simpa [c.state] using c.count
      repeats := fun hr => absurd c.repeats hr }
  case waiting =>
    simp only [List.mem_map, mem_joinState]
    split
    · next e => exact ⟨fun _ => c.state, fun _ => ⟨_, .inl rfl, e⟩⟩
    · next e =>
      exact ⟨fun ⟨p, hp, hpj⟩ => ⟨p, hp.resolve_left fun hpe => e (by rw [← hpj, hpe]), hpj⟩,
        fun ⟨p, hp, hpj⟩ => ⟨p, .inr hp, hpj⟩⟩
  case total =>
    obtain ⟨m, hm⟩ := Option.isSome_iff_exists.mp
      ((h.latched p.source).mpr (.inl ((h.pending _).mpr (List.mem_map_of_mem hp))))
    rw [position_of_latch ((congrArg Source.latch (src_of_replaced hset)).trans c.latch),
      position_of_latch ((congrArg Source.latch (src_of_other hset (hnotin p hp))).trans hm)]
    exact c.fresh _ (hnotin p hp).symm m hm
  case stack =>
    show j ∈ s.svc.stack.map (·.source) ↔ _
    split
    · next e =>
      subst e
      rw [← h.serving, c.state]
      exact ⟨fun hs => absurd hs c.serving, nofun⟩
    · rfl

/-! ## A source is absorbed -/

/-- A source's absorption, without the reaction and the record (R115). -/
theorem src_absorbState (i : SourceId) (detail : Word) (s : State) (j : SourceId) :
    (absorbState i detail s).src j = if i = j then
        { s.src i with
          state := .absorbed, count := 1, detail := detail
          latch := some { position := s.arb.nextPosition, tick := s.tc.count } }
      else s.src j := by
  unfold absorbState takePosition
  show ((s.setSrc i _).setSrc i _).src j = _
  rw [setSrc_setSrc, src_setSrc, src_setSrc_self]
  rfl

theorem eventsCore_absorb {s : State} (h : s.EventsCore) {i : SourceId} (hi : i ≠ compoundId)
    (hq : (s.src i).state = .quiet) (detail : Word) : (absorbState i detail s).EventsCore := by
  have hsrc := src_absorbState i detail s
  have hrep : (s.src i).repeatCount = 0 := by
    by_contra hr
    rw [h.repeats i hr] at hq
    cases hq
  refine h.of_replaced
    { src := hsrc
      w0 := rfl
      waiting := fun j => ?waiting
      ordered := ordered_of_replaced hsrc rfl h.ordered (h.ne_of_waiting (by rw [hq]; decide))
      stack := fun j => ?stack
      nested := h.nested
      announced := h.announced
      compound := fun e => absurd e hi
      latched := by simp
      next := Nat.le_succ _
      place := fun l hl => by
        cases hl
        exact ⟨Nat.lt_succ_self _, fun j _ m hm => (h.positions j m hm).ne'⟩
      counts := by simp
      repeats := fun hr => absurd hrep hr }
  case waiting =>
    show j ∈ s.arb.waiting.map (·.source) ↔ _
    split
    · next e => subst e; rw [← h.pending, hq]; simp
    · rfl
  case stack =>
    show j ∈ s.svc.stack.map (·.source) ↔ _
    split
    · next e => subst e; rw [← h.serving, hq]; simp
    · rfl

/-! ## COMPOUND is pushed -/

theorem src_pushState (first second : SourceId) (s : State) (j : SourceId) :
    (pushState first second s).src j = if compoundId = j then
        { s.src compoundId with state := .serving, detail := compoundPair first second }
      else s.src j := src_setSrc s compoundId j _

/-- The pair names the absorbed source in its low byte (R117). -/
theorem sourceOf_compoundPair (first second : SourceId) :
    sourceOf ((compoundPair first second).extractLsb' 0 5) = second := by
  have h : (compoundPair first second).extractLsb' 0 5 = sourceBits second := by
    unfold compoundPair
    generalize sourceBits first = a
    generalize sourceBits second = b
    ext n hn
    simp only [BitVec.getElem_extractLsb', BitVec.getLsbD_append, BitVec.zeroExtend, BitVec.getLsbD_setWidth]
    simp [show n < 8 by omega, hn]
  rw [h]
  rfl

/-- COMPOUND's rank is above those of the other classes (R66, R90). -/
@[simp] theorem rank_compound (s : State) : s.rank compoundId = 3 := by simp [State.rank]

theorem eventsCore_push {s : State} (h : s.EventsCore) (hr : ∀ e ∈ s.svc.stack, s.rank e.source < 3)
    (first second : SourceId) : (pushState first second s).EventsCore := by
  have hsrc := src_pushState first second s
  have hquiet : (s.src compoundId).state = .quiet := by
    refine h.compound.resolve_right fun hs => ?_
    obtain ⟨e, he, hes⟩ := List.mem_map.mp ((h.serving _).mp hs)
    have := hr e he
    rw [hes, rank_compound] at this
    omega
  refine h.of_replaced
    { src := hsrc
      w0 := rfl
      waiting := fun j => ?waiting
      ordered := ordered_of_replaced hsrc rfl h.ordered (h.ne_of_waiting (by rw [hquiet]; decide))
      stack := fun j => ?stack
      nested := List.pairwise_cons.mpr ⟨fun e he => ?above, h.nested⟩
      announced := fun e he hc => ?announced
      compound := fun _ => ⟨h.norepeat, .inr rfl⟩
      latched := by simpa [hquiet] using h.latched compoundId
      next := Nat.le_refl _
      place := fun l hl => ⟨h.positions _ l hl, fun j hj m hm => h.distinct _ j hj.symm l m hl hm⟩
      counts := by simpa [hquiet] using h.counts compoundId
      repeats := fun hn => absurd h.norepeat hn }
  case waiting =>
    show j ∈ s.arb.waiting.map (·.source) ↔ _
    split
    · next e => subst e; rw [← h.pending, hquiet]; simp
    · rfl
  case stack =>
    show j ∈ compoundId :: s.svc.stack.map (·.source) ↔ _
    split
    · next e => simp [e]
    · next e => simp [Ne.symm e]
  case above =>
    rw [pairAbove_iff]
    exact .inl ((hr e he).trans_eq (rank_compound _).symm)
  case announced =>
    rcases List.mem_cons.mp he with rfl | he
    · exact absurd rfl hc
    · exact h.announced e he hc

/-! ## A source is claimed -/

theorem src_claimState (i : SourceId) (s : State) (j : SourceId) :
    (claimState i s).src j = if i = j then
        { s.src i with
          state := .serving, count := 0, repeatCount := 0, latch := none, overrun := false, expired := false }
      else s.src j := src_setSrc s i j _

/-- The entries of the list after a claim (R99). -/
theorem mem_claimState (i : SourceId) (s : State) (p : PendEntry) :
    p ∈ (claimState i s).arb.waiting ↔ p ∈ s.arb.waiting ∧ p.source ≠ i := by
  show p ∈ s.arb.waiting.filter (·.source != i) ↔ _
  simp

/-- COMPOUND never waits in the list (R119). -/
theorem State.EventsCore.compound_not_pending {s : State} (h : s.EventsCore) :
    (s.src compoundId).state ≠ .pending := by
  rcases h.compound with hc | hc <;> rw [hc] <;> decide

theorem eventsCore_claim {s : State} (h : s.EventsCore) {i : SourceId} (hp : (s.src i).state = .pending)
    (ha : ∀ e ∈ s.svc.stack, s.pairAbove i e.source = true) : (claimState i s).EventsCore := by
  have hsrc := src_claimState i s
  refine h.of_replaced
    { src := hsrc
      w0 := rfl
      waiting := fun j => ?waiting
      ordered := ordered_of_replaced hsrc rfl (l := (claimState i s).arb.waiting) (h.ordered.filter _)
        fun p hp => (((mem_claimState i s p).mp hp).2).symm
      stack := fun j => ?stack
      nested := List.pairwise_cons.mpr ⟨ha, h.nested⟩
      announced := fun e he hc => ?announced
      compound := fun e => absurd hp (e ▸ h.compound_not_pending)
      latched := by simp
      next := Nat.le_refl _
      place := nofun
      counts := by simp
      repeats := fun hn => absurd rfl hn }
  case waiting =>
    simp only [List.mem_map, mem_claimState]
    split
    · next e =>
      subst e
      exact ⟨fun ⟨p, hp, e⟩ => absurd e hp.2, nofun⟩
    · next e =>
      exact ⟨fun ⟨p, hp, hpj⟩ => ⟨p, hp.1, hpj⟩, fun ⟨p, hp, hpj⟩ => ⟨p, ⟨hp, fun hpi => e (hpi ▸ hpj)⟩, hpj⟩⟩
  case stack =>
    show j ∈ i :: s.svc.stack.map (·.source) ↔ _
    split
    · next e => simp [e]
    · next e => simp [Ne.symm e]
  case announced =>
    rcases List.mem_cons.mp he with rfl | he
    · rfl
    · exact h.announced e he hc

/-! ## The top is popped -/

/-- The top is popped, and its source returns to Quiet with nothing kept back (R106). -/
theorem eventsCore_pop {s : State} (h : s.EventsCore) {top : StackEntry} {rest : List StackEntry}
    (hs : s.svc.stack = top :: rest) {x : Source} (hx0 : x.w0 = (s.src top.source).w0) (hxs : x.state = .quiet)
    (hxc : x.count = 0) (hxr : x.repeatCount = 0) (hxl : x.latch = none) :
    ((popStack s).setSrc top.source x).EventsCore := by
  have hsrc (j : SourceId) : ((popStack s).setSrc top.source x).src j = if top.source = j then x else s.src j :=
    src_setSrc s top.source j x
  have hstack : ((popStack s).setSrc top.source x).svc.stack = rest := by
    rw [setSrc_svc, popStack_svc_stack, hs]
    rfl
  have hserving : (s.src top.source).state = .serving := (h.serving _).mpr (by rw [hs]; simp)
  have hnest := h.nested
  rw [hs] at hnest
  obtain ⟨habove, hnest⟩ := List.pairwise_cons.mp hnest
  refine h.of_replaced
    { src := hsrc
      w0 := hx0
      waiting := fun j => ?waiting
      ordered := ordered_of_replaced hsrc hx0 h.ordered (h.ne_of_waiting (by rw [hserving]; decide))
      stack := fun j => ?stack
      nested := by rw [hstack]; exact hnest
      announced := fun e he hc => h.announced e (by rw [hstack] at he; rw [hs]; exact List.mem_cons_of_mem _ he) hc
      compound := fun _ => ⟨hxr, .inl hxs⟩
      latched := by simp [hxl, hxs]
      next := Nat.le_refl _
      place := fun l hl => by rw [hxl] at hl; cases hl
      counts := by simp [hxc, hxs]
      repeats := fun hn => absurd hxr hn }
  case waiting =>
    show j ∈ s.arb.waiting.map (·.source) ↔ _
    split
    · next e => subst e; rw [← h.pending, hserving, hxs]; simp
    · rfl
  case stack =>
    rw [hstack]
    split
    · next e =>
      subst e
      rw [hxs]
      refine ⟨fun hm => ?_, nofun⟩
      obtain ⟨e, he, hes⟩ := List.mem_map.mp hm
      exact absurd hes.symm (ne_of_pairAbove (habove e he))
    · next e => simp [hs, Ne.symm e]

/-! ## Nothing pends and nothing is in service -/

/-- With no source busy, counting or placed, an empty list and an empty stack agree (R39, R47, R48, R56). -/
theorem eventsAgree_of_cleared {s : State} (hw : s.arb.waiting = []) (hs : s.svc.stack = [])
    (hsrc : ∀ i : SourceId, ((s.src i).state = .disarmed ∨ (s.src i).state = .quiet) ∧ (s.src i).count = 0
      ∧ (s.src i).repeatCount = 0 ∧ (s.src i).latch = none)
    (hc : (s.src compoundId).state = .quiet) : s.EventsAgree := by
  have hbusy (i : SourceId) : (s.src i).state ≠ .pending ∧ (s.src i).state ≠ .serving ∧ (s.src i).state ≠ .absorbed := by
    rcases (hsrc i).1 with h | h <;> rw [h] <;> decide
  have hcount (i : SourceId) := (hsrc i).2.1
  have hlatch (i : SourceId) := (hsrc i).2.2.2
  exact
    { configuring := fun _ => ⟨hw, hs, fun i => busy_eq_false.mpr (hbusy i)⟩
      pending := fun i => by simp [hw, (hbusy i).1]
      ordered := by rw [hw]; exact .nil
      serving := fun i => by simp [hs, (hbusy i).2.1]
      nested := by rw [hs]; exact .nil
      announced := by rw [hs]; nofun
      norepeat := (hsrc compoundId).2.2.1
      compound := .inl hc
      latched := fun i => by simp [hlatch i, (hbusy i).1, (hbusy i).2.2]
      positions := fun i l hl => by rw [hlatch i] at hl; cases hl
      distinct := fun i j _ l m hl _ => by rw [hlatch i] at hl; cases hl
      counts := fun i => by simp [hcount i, (hbusy i).1, (hbusy i).2.2]
      repeats := fun i hi => absurd (hsrc i).2.2.1 hi
      absorbed := fun _ i => by simp [hs, (hbusy i).2.2] }

end Sys2Proof.Machine
end

section
/-! PROOFS. The agreement of source states, list and stack with the mode, and the validity of armed descriptors, are kept
by every update of `CommandKeeps`; then O59. -/

namespace Sys2Proof.Machine

-- one proof after another: each thread that elaborates costs the check a GiB of its memory limit
set_option Elab.async false

/-! ## The latch updates as joins -/

/-- The place of an entry depends on the source table only. -/
theorem insertEntry_congr {s t : State} (h : t.srcs.table = s.srcs.table) (e : PendEntry) (l : List PendEntry) :
    insertEntry t e l = insertEntry s e l := by
  have hb (a b : SourceId) : t.standsBefore a b = s.standsBefore a b := by
    have src (i : SourceId) : t.src i = s.src i := by rw [State.src, h]; rfl
    exact standsBefore_congr (by rw [src]) (by rw [src]) (by rw [src]) (by rw [src])
  induction l with
  | nil => rfl
  | cons x rest ih => rw [insertEntry, insertEntry, ih, hb]

/-- A source that keeps its place joins the list (R86, R121). -/
theorem joinPending_eq (i : SourceId) (s : State) :
    joinPending i s = joinState i { s.src i with state := .pending, expired := false }
      (s.src i).freshClaimDeadline s.arb.nextPosition s := rfl

/-- A source that takes the next place joins the list (R82, R107). -/
theorem joinPending_takePosition (i : SourceId) (y : Source) (s : State) :
    joinPending i (takePosition i (s.setSrc i y)) =
      joinState i { y with
          state := .pending, expired := false
          latch := some { position := s.arb.nextPosition, tick := s.tc.count } }
        y.freshClaimDeadline (s.arb.nextPosition + 1) s := by
  have hsrc : (takePosition i (s.setSrc i y)).src i =
      { y with latch := some { position := s.arb.nextPosition, tick := s.tc.count } } := by
    show ((s.setSrc i y).setSrc i _).src i = _
    rw [src_setSrc_self, src_setSrc_self]
    rfl
  rw [joinPending_eq, hsrc]
  unfold joinState
  dsimp only
  rw [insertEntry_congr (s := s.setSrc i { y with
    state := .pending, expired := false
    latch := some { position := s.arb.nextPosition, tick := s.tc.count } })]
  · simp [takePosition, State.setSrc]
    rfl
  · simp [takePosition, State.setSrc]

/-- A source as its first latch leaves it (R82). -/
def latchedSource (i : SourceId) (detail : Word) (s : State) : Source :=
  { s.src i with
    state := .pending, count := 1, detail := detail, expired := false
    latch := some { position := s.arb.nextPosition, tick := s.tc.count } }

/-- A source as its re-latch leaves it (R107). -/
def relatchedSource (i : SourceId) (s : State) : Source :=
  { s.src i with
    state := .pending, count := (s.src i).repeatCount, repeatCount := 0, expired := false
    latch := some { position := s.arb.nextPosition, tick := s.tc.count } }

/-- A first latch with the normal outcome is a join (R82). -/
theorem latchState_eq (i : SourceId) (detail : Word) (s : State) :
    latchState i detail s =
      joinState i (latchedSource i detail s) (s.src i).freshClaimDeadline (s.arb.nextPosition + 1) s :=
  joinPending_takePosition i _ s

/-- A re-latch is a join (R107). -/
theorem relatch_eq (i : SourceId) (s : State) :
    relatch i s = joinState i (relatchedSource i s) (s.src i).freshClaimDeadline (s.arb.nextPosition + 1) s :=
  joinPending_takePosition i _ s

/-! ## Arm validation -/

/-- Arm validation looks at the descriptor words only (R71). -/
theorem armFault_congr {i : SourceId} {x y : Source} (h0 : y.w0 = x.w0) (h1 : y.w1 = x.w1) (h2 : y.w2 = x.w2) :
    armFault i y = armFault i x := by
  obtain ⟨a0, a1, a2⟩ := x
  obtain ⟨b0, b1, b2⟩ := y
  obtain rfl : b0 = a0 := h0
  obtain rfl : b1 = a1 := h1
  obtain rfl : b2 = a2 := h2
  rfl

/-- Armed sources have valid descriptors (R71), and OVERRUN is one of them (R70). -/
structure State.Validated (s : State) : Prop where
  valid   : s.ArmedValid
  overrun : (s.src overrunId).armed = true

/-- Valid descriptors stay valid where the words and the armed sources are kept. -/
theorem State.Validated.of_words {s t : State} (h : s.Validated)
    (ha : ∀ i : SourceId, (t.src i).armed = (s.src i).armed)
    (hw : ∀ i : SourceId, (t.src i).w0 = (s.src i).w0 ∧ (t.src i).w1 = (s.src i).w1 ∧ (t.src i).w2 = (s.src i).w2) :
    t.Validated where
  valid := fun i hi => by
    obtain ⟨h0, h1, h2⟩ := hw i
    rw [armFault_congr h0 h1 h2]
    exact h.valid i (by rw [← ha]; exact hi)
  overrun := (ha _).trans h.overrun

theorem State.Validated.of_table {s t : State} (h : s.Validated) (ht : t.srcs.table = s.srcs.table) :
    t.Validated := by
  have src (i : SourceId) : t.src i = s.src i := by rw [State.src, ht]; rfl
  exact h.of_words (fun i => by rw [src]) fun i => by rw [src]; exact ⟨rfl, rfl, rfl⟩

/-- Where one source is replaced by another with the same descriptor, armed if it was. -/
theorem State.Validated.of_replaced {s t : State} (h : s.Validated) {i : SourceId} {x : Source}
    (hsrc : ∀ j, t.src j = if i = j then x else s.src j)
    (hw : x.w0 = (s.src i).w0 ∧ x.w1 = (s.src i).w1 ∧ x.w2 = (s.src i).w2)
    (ha : x.armed = (s.src i).armed) : t.Validated := by
  refine h.of_words (fun j => ?_) fun j => ?_
  · rw [hsrc]
    split
    · next e => subst e; exact ha
    · rfl
  · rw [hsrc]
    split
    · next e => subst e; exact hw
    · exact ⟨rfl, rfl, rfl⟩

/-- A source in any state but Disarmed is armed (R69). -/
theorem armed_of_ne {x : Source} (h : x.state ≠ .disarmed) : x.armed = true := by
  simp [Source.armed, h]

/-- Two sources in states other than Disarmed are armed alike. -/
theorem armed_congr {x y : Source} (a : SrcState) {b : SrcState} (hx : x.state = a) (hy : y.state = b)
    (h : a ≠ .disarmed ∧ b ≠ .disarmed := by decide) : x.armed = y.armed := by
  rw [armed_of_ne (hx ▸ h.1), armed_of_ne (hy ▸ h.2)]

/-! ## The agreement and the validity together -/

/-- The agreement of source states, list and stack, and the validity of armed descriptors (R71). -/
structure State.EventsValid (s : State) : Prop where
  events : s.EventsAgree
  armed  : s.Validated

/-- An update that leaves what both look at, in the same mode or into Lockdown. -/
theorem State.EventsValid.of_units {s t : State} (h : s.EventsValid) (ha : t.arb.waiting = s.arb.waiting)
    (hn : t.arb.nextPosition = s.arb.nextPosition) (hv : t.svc = s.svc) (ht : t.srcs.table = s.srcs.table)
    (hm : t.mc.mode = s.mc.mode ∨ t.mc.mode = .lockdown) : t.EventsValid :=
  ⟨h.events.of_same (.of_units ha hn (by rw [hv]) ht) hm (by rw [hv]), h.armed.of_table ht⟩

/-- A source replaced by one that looks the same to both. -/
theorem State.EventsValid.of_setSrc {s : State} (h : s.EventsValid) {i : SourceId} {x : Source}
    (hx : SameSource (s.src i) x) (hs : x.state = (s.src i).state)
    (hr : i = compoundId → x.repeatCount = (s.src i).repeatCount)
    (hw : x.w0 = (s.src i).w0 ∧ x.w1 = (s.src i).w1 ∧ x.w2 = (s.src i).w2) : (s.setSrc i x).EventsValid :=
  ⟨h.events.of_same (.of_setSrc hx fun e => ⟨hs, hr e⟩) (.inl rfl) rfl,
    h.armed.of_replaced (fun j => src_setSrc s i j x) hw (by rw [Source.armed, Source.armed, hs])⟩

/-- The conditions of a source that has no place yet to take the next one (R82, R107). -/
theorem canJoin_next {s : State} (h : s.EventsCore) {i : SourceId} {x : Source} {tick : BitVec 32}
    (hi : i ≠ compoundId) (hp : (s.src i).state ≠ .pending) (hv : (s.src i).state ≠ .serving)
    (hw : x.w0 = (s.src i).w0) (hs : x.state = .pending) (hc : x.count ≠ 0) (hr : x.repeatCount = 0)
    (hl : x.latch = some { position := s.arb.nextPosition, tick := tick }) :
    CanJoin s i x { position := s.arb.nextPosition, tick := tick } (s.arb.nextPosition + 1) :=
  ⟨hi, hp, hv, hw, hs, hc, hr, hl, ⟨Nat.lt_succ_self _, Nat.le_succ _⟩,
    fun j _ m hm => (h.positions j m hm).ne'⟩

/-- A Quiet source holds nothing back (R79). -/
theorem State.EventsCore.repeatCount_of_quiet {s : State} (h : s.EventsCore) {i : SourceId}
    (hq : (s.src i).state = .quiet) : (s.src i).repeatCount = 0 := by
  by_contra hr
  rw [h.repeats i hr] at hq
  cases hq

/-- In Running, a source that is not absorbed stays unpaired as it joins the list (R120). -/
theorem absorbedPaired_join {s : State} (h : s.AbsorbedPaired) {i : SourceId} {x : Source} {d : Deadline} {next : Nat}
    (hm : s.mc.mode = .running) (ha : (s.src i).state ≠ .absorbed) (hs : x.state = .pending) :
    (joinState i x d next s).AbsorbedPaired := fun _ j => by
  show _ ↔ compoundId ∈ s.svc.stack.map (·.source) ∧ j = sourceOf (s.svc.comprec0.extractLsb' 0 5)
  rw [src_joinState]
  split
  · next e =>
    subst e
    rw [hs, ← h hm i]
    exact ⟨nofun, fun h => absurd h ha⟩
  · exact h hm j

theorem State.EventsAgree.paired {s : State} (h : s.EventsAgree) : s.AbsorbedPaired := h.absorbed

/-- A state in Running has nothing to say of Configuring. -/
theorem idleConfiguring_of_mode {s : State} (h : s.mc.mode ≠ .configuring) : s.IdleConfiguring := fun e => absurd e h

/-- A state in Lockdown need not pair its absorbed sources (R120). -/
theorem absorbedPaired_of_mode {s : State} (h : s.mc.mode ≠ .running) : s.AbsorbedPaired := fun e => absurd e h

theorem eventsValid_latch {s : State} (h : s.EventsValid) (hm : s.mc.mode = .running) {i : SourceId}
    (hq : (s.src i).state = .quiet) (hi : i ≠ compoundId) (detail : Word) : (latchState i detail s).EventsValid := by
  have hc := h.events.core
  rw [latchState_eq]
  refine ⟨(eventsCore_join hc (canJoin_next (x := latchedSource i detail s) hc hi (by rw [hq]; decide)
    (by rw [hq]; decide) rfl rfl (show (1 : Byte) ≠ 0 by decide) (hc.repeatCount_of_quiet hq) rfl) _).agree ?_ ?_, ?_⟩
  · exact idleConfiguring_of_mode (by show s.mc.mode ≠ _; rw [hm]; decide)
  · exact absorbedPaired_join h.events.paired hm (by rw [hq]; decide) rfl
  · exact h.armed.of_replaced (src_joinState _ _ _ _ _) ⟨rfl, rfl, rfl⟩ (armed_congr .pending rfl hq)

/-- A compound outcome is that of a Fault over a Fault or a Critical, with compounding enabled (R114). -/
theorem decision_compound {s : State} {i : SourceId} (h : s.decision i = .compound) :
    (s.src i).cls = .fault ∧ (s.severity = 1 ∨ s.severity = 2) ∧ s.compoundEnable = true := by
  unfold State.decision escalate at h
  cases hc : (s.src i).cls with
  | fault =>
    rw [hc] at h
    match hs : s.severity with
    | 0 => rw [hs] at h; cases h
    | 1 => rw [hs] at h; exact ⟨rfl, .inl rfl, by simpa using h⟩
    | 2 => rw [hs] at h; exact ⟨rfl, .inr rfl, by simpa using h⟩
    | n + 3 => rw [hs] at h; cases h
  | critical =>
    rw [hc] at h
    match hs : s.severity with
    | 0 => rw [hs] at h; cases h
    | 1 => rw [hs] at h; cases h
    | 2 => rw [hs] at h; cases h
    | n + 3 => rw [hs] at h; cases h
  | notice => rw [hc] at h; cases h
  | compound => rw [hc] at h; cases h

theorem validated_absorb {s : State} (h : s.Validated) {i : SourceId} (hq : (s.src i).state = .quiet)
    (detail : Word) : (absorbState i detail s).Validated :=
  h.of_replaced (src_absorbState i detail s) ⟨rfl, rfl, rfl⟩ (armed_congr .absorbed rfl hq)

theorem eventsValid_push {s : State} (h : s.EventsValid) (hm : s.mc.mode = .running) {i : SourceId}
    (hq : (s.src i).state = .quiet) (hi : i ≠ compoundId) (hd : s.decision i = .compound) (detail : Word)
    (first : SourceId) : (pushState first i (absorbState i detail s)).EventsValid := by
  have hc := h.events.core
  have hrank : ∀ e ∈ s.svc.stack, s.rank e.source < 3 := fun e he => by
    have := rank_le_severity he
    have := (decision_compound hd).2.1
    omega
  have hw0 (j : SourceId) : ((absorbState i detail s).src j).w0 = (s.src j).w0 :=
    w0_of_replaced (src_absorbState i detail s) rfl j
  have hnone (j : SourceId) : (s.src j).state ≠ .absorbed := fun ha => by
    obtain ⟨e, he, hes⟩ := List.mem_map.mp ((h.events.absorbed hm j).mp ha).1
    have := hrank e he
    rw [hes, rank_compound] at this
    omega
  have hcompound : ((absorbState i detail s).src compoundId).armed = true := by
    rw [src_absorbState, if_neg hi]
    exact armed_of_ne (by rcases hc.compound with e | e <;> rw [e] <;> decide)
  refine ⟨(eventsCore_push (eventsCore_absorb hc hi hq detail)
    (fun e he => by rw [rank_congr (hw0 _)]; exact hrank e he) first i).agree ?_ fun _ j => ?_, ?_⟩
  · exact idleConfiguring_of_mode (by show s.mc.mode ≠ _; rw [hm]; decide)
  · show _ ↔ compoundId ∈ compoundId :: s.svc.stack.map (·.source) ∧
      j = sourceOf ((compoundPair first i).extractLsb' 0 5)
    rw [src_pushState, sourceOf_compoundPair]
    split
    · next e =>
      subst e
      exact ⟨nofun, fun ⟨_, e⟩ => absurd e.symm hi⟩
    · rw [src_absorbState]
      split
      · next e => simp [e]
      · next e => exact ⟨fun ha => absurd ha (hnone j), fun ⟨_, ej⟩ => absurd ej.symm e⟩
  · exact (validated_absorb h.armed hq detail).of_replaced (src_pushState first i _) ⟨rfl, rfl, rfl⟩
      ((armed_of_ne (show SrcState.serving ≠ .disarmed by decide)).trans hcompound.symm)

/-- A saturating count of an occurrence is never 0 (R84). -/
theorem satInc_ne_zero (b : Byte) : satInc b ≠ 0 := by
  revert b
  decide

theorem eventsValid_count {s : State} (h : s.EventsValid) {i : SourceId} (detail : Word)
    (hs : (s.src i).state = .pending ∨ (s.src i).state = .absorbed) :
    (countOccurrence i detail s).EventsValid :=
  h.of_setSrc ⟨Iff.rfl, Iff.rfl, Iff.rfl, rfl,
    ⟨fun e => absurd e (satInc_ne_zero _), fun e => absurd e ((h.events.counts i).mpr hs)⟩, .inl, fun _ => rfl⟩
    rfl (fun _ => rfl) ⟨rfl, rfl, rfl⟩

/-- A source is absorbed, and the node locks down over its full stack (R118). -/
theorem eventsValid_lock_absorb {s : State} (h : s.EventsValid) {i : SourceId} (hq : (s.src i).state = .quiet)
    (hi : i ≠ compoundId) (detail : Word) (lockrec locktick : Word) :
    (lockState lockrec locktick (absorbState i detail s)).EventsValid where
  events := ((eventsCore_absorb h.events.core hi hq detail).of_same
      (t := lockState lockrec locktick (absorbState i detail s)) (.of_units rfl rfl rfl rfl)).agree
    (idleConfiguring_of_mode (show Mode.lockdown ≠ .configuring by decide)) (absorbedPaired_of_mode
      (show Mode.lockdown ≠ .running by decide))
  armed := (validated_absorb h.armed hq detail).of_table rfl

theorem eventsValid_engine : EngineKeeps State.EventsValid where
  journal := fun _ _ _ _ h => h.of_units rfl rfl rfl rfl (.inl rfl)
  bind := fun _ _ _ h => h.of_units rfl rfl rfl rfl (.inl rfl)
  lock := fun _ _ _ h => h.of_units rfl rfl rfl rfl (.inr rfl)
  mask := fun s i h => by
    rw [selfMask_eq]
    exact h.of_units rfl rfl rfl rfl (.inl rfl)
  latch := fun _ _ detail hm hq hi h => eventsValid_latch h hm hq hi detail
  push := fun _ _ detail top _ hm hq hi hd _ _ h => eventsValid_push h hm hq hi hd detail top.source
  full := fun s i detail _ _ _ hq hi h => eventsValid_lock_absorb h hq hi detail _ _
  count := fun _ _ detail _ hs _ h => eventsValid_count h detail hs
  again := fun _ _ _ _ hs hi h => h.of_setSrc
    ⟨Iff.rfl, Iff.rfl, Iff.rfl, rfl, Iff.rfl, fun _ => .inr hs, fun _ => rfl⟩ rfl (fun e => absurd e hi) ⟨rfl, rfl, rfl⟩

/-- A change of the top that keeps its source leaves the sources of the stack. -/
theorem map_source_mapTop {f : StackEntry → StackEntry} (hf : ∀ e, (f e).source = e.source) (l : List StackEntry) :
    (mapTop f l).map (·.source) = l.map (·.source) := by
  cases l with
  | nil => rfl
  | cons e rest => simp [mapTop, hf]

theorem announced_mapTop {f : StackEntry → StackEntry} {l : List StackEntry}
    (hf : ∀ e, (f e).source = e.source ∧ (e.announced = true → (f e).announced = true))
    (h : ∀ e ∈ l, e.source ≠ compoundId → e.announced = true) :
    ∀ e ∈ mapTop f l, e.source ≠ compoundId → e.announced = true := by
  cases l with
  | nil => exact h
  | cons a rest =>
    intro e he hc
    rcases List.mem_cons.mp he with rfl | he
    · exact (hf a).2 (h a List.mem_cons_self (by rw [← (hf a).1]; exact hc))
    · exact h e (List.mem_cons_of_mem _ he) hc

/-- Another top with the same source, announced if it was (R98, R132). -/
theorem eventsValid_mapTop {s : State} (h : s.EventsValid) {f : StackEntry → StackEntry}
    (hf : ∀ e, (f e).source = e.source ∧ (e.announced = true → (f e).announced = true)) (r : Words4) :
    State.EventsValid { s with svc := { s.svc with stack := mapTop f s.svc.stack, claimrec := r } } where
  events := h.events.of_same
    { waiting := rfl
      stack := map_source_mapTop (fun e => (hf e).1) s.svc.stack
      announced := fun ha => announced_mapTop hf ha
      next := rfl
      source := fun _ => .refl _
      compound := ⟨rfl, rfl⟩ } (.inl rfl) rfl
  armed := h.armed.of_table rfl

theorem eventsValid_tick : TickKeeps State.EventsValid where
  engine := eventsValid_engine
  compare := fun s h => by
    rw [compareReadback_eq]
    exact h.of_units rfl rfl rfl rfl (.inl rfl)
  top := fun s d h => eventsValid_mapTop (f := fun e => { e with deadline := d }) h (fun _ => ⟨rfl, id⟩) s.svc.claimrec
  overrun := fun _ _ h => h.of_setSrc
    ⟨Iff.rfl, Iff.rfl, Iff.rfl, rfl, Iff.rfl, .inl, fun _ => rfl⟩ rfl (fun _ => rfl) ⟨rfl, rfl, rfl⟩
  entry := fun s i d h =>
    ⟨h.events.of_same ⟨map_source_setClaimDeadline i d s, rfl, id, rfl, fun _ => .refl _, rfl, rfl⟩ (.inl rfl) rfl,
      h.armed.of_table rfl⟩
  expired := fun _ _ h => h.of_setSrc
    ⟨Iff.rfl, Iff.rfl, Iff.rfl, rfl, Iff.rfl, .inl, fun _ => rfl⟩ rfl (fun _ => rfl) ⟨rfl, rfl, rfl⟩
  watchdog := fun _ _ h => h.of_units rfl rfl rfl rfl (.inl rfl)

/-! ## Register execution -/

/-- What is claimable is so in Running and stands above every entry of a nested stack (R90, R96). -/
theorem claimable_spec {s : State} (h : s.EventsCore) {i : SourceId} (hc : s.claimable i = true) :
    s.eligible i = true ∧ s.mc.mode = .running ∧ ∀ e ∈ s.svc.stack, s.pairAbove i e.source = true := by
  unfold State.claimable at hc
  simp only [Bool.and_eq_true, beq_iff_eq] at hc
  obtain ⟨⟨⟨he, hm⟩, -⟩, ha⟩ := hc
  refine ⟨he, hm, ?_⟩
  cases hs : s.svc.stack with
  | nil => nofun
  | cons top rest =>
    rw [hs] at ha
    have hnest := h.nested
    rw [hs] at hnest
    intro e he
    rcases List.mem_cons.mp he with rfl | he
    · exact ha
    · exact pairAbove_trans ha (List.rel_of_pairwise_cons hnest he)

theorem eventsValid_claim {s : State} (h : s.EventsValid) {e : PendEntry} (he : s.candidate = some e) :
    (claimState e.source s).EventsValid := by
  have hc := h.events.core
  obtain ⟨hin, hcl⟩ := candidate_spec he
  obtain ⟨-, hm, habove⟩ := claimable_spec hc hcl
  have hp : (s.src e.source).state = .pending := (hc.pending _).mpr (List.mem_map_of_mem hin)
  refine ⟨(eventsCore_claim hc hp habove).agree ?_ fun _ j => ?_, ?_⟩
  · exact idleConfiguring_of_mode (by show s.mc.mode ≠ _; rw [hm]; decide)
  · show _ ↔ compoundId ∈ e.source :: s.svc.stack.map (·.source) ∧
      j = sourceOf (s.svc.comprec0.extractLsb' 0 5)
    have hne : compoundId ≠ e.source := fun ec => hc.compound_not_pending (ec ▸ hp)
    rw [List.mem_cons, or_iff_right hne, ← h.events.absorbed hm j, src_claimState]
    split
    · next ej => subst ej; rw [hp]; simp
    · rfl
  · exact h.armed.of_replaced (src_claimState e.source s) ⟨rfl, rfl, rfl⟩ (armed_congr .serving rfl hp)

/-- Outside Configuring an armed source has no accepted descriptor write; in Configuring no source is busy (R28, R31,
R39). -/
theorem not_waiting_of_written {s : State} (h : s.EventsAgree) {i : SourceId} {w : Fin 4} {data : Word}
    (hc : writeRefusal s (.desc i w) data = none) :
    (s.src i).state ≠ .pending ∧ (s.src i).state ≠ .serving := by
  obtain ⟨hspecial, -⟩ := accepted_descriptor (specific_of_accepted hc)
  by_cases ha : (s.src i).armed = true
  · have hm : s.mc.mode = .configuring := by
      have := mode_of_accepted hc
      simpa [modeRefuses, hspecial ha] using this
    have hb := busy_eq_false.mp ((h.configuring hm).2.2 i)
    exact ⟨hb.1, hb.2.1⟩
  · have hd : (s.src i).state = .disarmed := by simpa [Source.armed] using ha
    rw [hd]
    decide

/-- What a descriptor write leaves of the source (R70). -/
theorem writeDescriptor_runtime (i : SourceId) (w : Fin 4) (data : Word) (x : Source) :
    writeDescriptor i w data x =
      { x with
        w0 := (writeDescriptor i w data x).w0, w1 := (writeDescriptor i w data x).w1
        w2 := (writeDescriptor i w data x).w2 } := by
  unfold writeDescriptor
  split <;> rfl

/-- Neither a change of armed descriptors that are not valid nor of OVERRUN's state. -/
theorem State.Validated.of_setSrc {s : State} (h : s.Validated) {i : SourceId} {x : Source}
    (hv : x.armed = true → armFault i x = none) (hi : i ≠ overrunId ∨ x.armed = (s.src i).armed) :
    (s.setSrc i x).Validated where
  valid := fun j hj => by
    rw [src_setSrc] at hj ⊢
    split
    · next e => subst e; exact hv (by simpa using hj)
    · next e => rw [if_neg e] at hj; exact h.valid j hj
  overrun := by
    rw [src_setSrc]
    split
    · next e => exact (hi.resolve_left (not_not_intro e)).trans (e ▸ h.overrun)
    · exact h.overrun

theorem eventsValid_putReg {s : State} (h : s.EventsValid) {r : Reg} {data : Word}
    (hc : writeRefusal s r data = none) : (putReg r data s).EventsValid := by
  cases r with
  | desc i w =>
    obtain ⟨hnp, hns⟩ := not_waiting_of_written h.events hc
    obtain ⟨hspecial, -, -, hvalid⟩ := accepted_descriptor (specific_of_accepted hc)
    have hx := writeDescriptor_runtime i w data (s.src i)
    have ha : (writeDescriptor i w data (s.src i)).armed = (s.src i).armed := by rw [hx]; rfl
    have hsame : SameSource (s.src i) (writeDescriptor i w data (s.src i)) := by
      rw [hx]
      exact ⟨Iff.rfl, Iff.rfl, Iff.rfl, rfl, Iff.rfl, .inl, fun g => (g.elim hnp hns).elim⟩
    exact ⟨h.events.of_same (.of_setSrc hsame fun _ => by rw [hx]; exact ⟨rfl, rfl⟩) (.inl rfl) rfl,
      h.armed.of_setSrc (fun hj => hvalid (hspecial (ha ▸ hj))) (.inr ha)⟩
  | _ => exact h.of_units rfl rfl rfl rfl (.inl rfl)

/-- A Disarmed or Quiet source that is cleared and is Disarmed or Quiet again looks the same to the agreement (R72,
R73). -/
theorem sameSource_cleared {s : State} (h : s.EventsCore) {i : SourceId} (hb : s.busy i = false) {st : SrcState}
    (hst : st = .disarmed ∨ st = .quiet) : SameSource (s.src i) { (s.src i).cleared with state := st } := by
  obtain ⟨hp, hs, ha⟩ := busy_eq_false.mp hb
  have hn : ¬((s.src i).state = .pending ∨ (s.src i).state = .absorbed) := fun g => g.elim hp ha
  refine ⟨?_, ?_, ?_, ?_, ?_, fun g => absurd rfl g, fun g => (g.elim hp hs).elim⟩
  · exact iff_of_false (by rcases hst with rfl | rfl <;> nofun) hp
  · exact iff_of_false (by rcases hst with rfl | rfl <;> nofun) hs
  · exact iff_of_false (by rcases hst with rfl | rfl <;> nofun) ha
  · exact (Option.not_isSome_iff_eq_none.mp (mt (h.latched i).mp hn)).symm
  · have := mt (h.counts i).mp hn
    simpa [Source.cleared] using this

theorem eventsValid_arm {s : State} (h : s.EventsValid) {data : Word} (hc : writeRefusal s .arm data = none) :
    (armSource (namedSource data) s).EventsValid := by
  have hv := accepted_arm hc
  unfold armSource
  split
  · exact h
  next hn =>
  generalize namedSource data = i at hv hn ⊢
  have hcore := h.events.core
  have hd : (s.src i).state = .disarmed := by simpa [Source.armed] using hn
  have hic : i ≠ compoundId := by
    rintro rfl
    rcases hcore.compound with e | e <;> rw [hd] at e <;> cases e
  have hb : s.busy i = false := busy_eq_false.mpr (by rw [hd]; decide)
  have hov : i ≠ overrunId := by
    rintro rfl
    exact hn h.armed.overrun
  exact ⟨h.events.of_same (.of_setSrc (sameSource_cleared hcore hb (.inr rfl)) fun e => absurd e hic) (.inl rfl) rfl,
    h.armed.of_setSrc (fun _ => hv.resolve_left hn) (.inl hov)⟩

theorem eventsValid_disarm {s : State} (h : s.EventsValid) {data : Word} (hc : writeRefusal s .disarm data = none) :
    (disarmSource (namedSource data) s).EventsValid := by
  obtain ⟨hic, hov, hb⟩ := accepted_disarm hc
  unfold disarmSource
  split
  · exact ⟨h.events.of_same (.of_setSrc (sameSource_cleared h.events.core hb (.inl rfl)) fun e => absurd e hic)
      (.inl rfl) rfl, h.armed.of_setSrc nofun (.inl hov)⟩
  · exact h

/-! ## Completion -/

/-- A Serving source holds no place and counts nothing (R79). -/
theorem State.EventsCore.of_serving {s : State} (h : s.EventsCore) {i : SourceId} (hs : (s.src i).state = .serving) :
    (s.src i).count = 0 ∧ (s.src i).latch = none := by
  have hn : ¬((s.src i).state = .pending ∨ (s.src i).state = .absorbed) := by rw [hs]; decide
  exact ⟨by simpa using mt (h.counts i).mp hn, by simpa using mt (h.latched i).mp hn⟩

/-- The state after the top, whose source is `i`, is popped and `i` is Quiet with nothing kept back (R106). -/
def popped (i : SourceId) (s : State) : State :=
  (popStack s).setSrc i { s.src i with state := .quiet, count := 0, repeatCount := 0 }

theorem src_popped (i : SourceId) (s : State) (j : SourceId) :
    (popped i s).src j =
      if i = j then { s.src i with state := .quiet, count := 0, repeatCount := 0 } else s.src j :=
  src_setSrc (popStack s) i j _

theorem popped_stack {s : State} {top : StackEntry} {rest : List StackEntry} (hs : s.svc.stack = top :: rest)
    (i : SourceId) : (popped i s).svc.stack = rest := by
  show s.svc.stack.drop 1 = rest
  rw [hs]
  rfl

theorem state_of_top {s : State} (h : s.EventsCore) {top : StackEntry} {rest : List StackEntry}
    (hs : s.svc.stack = top :: rest) : (s.src top.source).state = .serving :=
  (h.serving _).mpr (by rw [hs]; simp)

theorem eventsCore_popped {s : State} (h : s.EventsCore) {top : StackEntry} {rest : List StackEntry}
    (hs : s.svc.stack = top :: rest) : (popped top.source s).EventsCore :=
  eventsCore_pop h hs (x := { s.src top.source with state := .quiet, count := 0, repeatCount := 0 })
    rfl rfl rfl rfl (h.of_serving (state_of_top h hs)).2

theorem validated_popped {s : State} (h : s.EventsValid) {top : StackEntry} {rest : List StackEntry}
    (hs : s.svc.stack = top :: rest) : (popped top.source s).Validated :=
  h.armed.of_replaced (src_popped _ s) ⟨rfl, rfl, rfl⟩ (armed_congr .quiet rfl (state_of_top h.events.core hs))

/-- A source that is absorbed can join with the place that it took at its occurrence (R121). -/
theorem canJoin_absorbed {s : State} (h : s.EventsCore) {i : SourceId} (hi : (s.src i).state = .absorbed) {l : Latch}
    (hl : (s.src i).latch = some l) :
    CanJoin s i { s.src i with state := .pending, expired := false } l s.arb.nextPosition where
  ne := by
    rintro rfl
    rcases h.compound with e | e <;> rw [hi] at e <;> cases e
  waiting := by rw [hi]; decide
  serving := by rw [hi]; decide
  w0 := rfl
  state := rfl
  count := (h.counts i).mpr (.inr hi)
  repeats := by
    by_contra hr
    rw [h.repeats i hr] at hi
    cases hi
  latch := hl
  next := ⟨h.positions i l hl, Nat.le_refl _⟩
  fresh := fun j hj m hm => h.distinct i j hj.symm l m hl hm

/-- With COMPOUND popped, the source that it absorbed is still so, and no other is (R120). -/
theorem absorbed_popped {s : State} (h : s.EventsAgree) (hm : s.mc.mode = .running) {top : StackEntry}
    {rest : List StackEntry} (hs : s.svc.stack = top :: rest) (ht : top.source = compoundId) (j : SourceId) :
    ((popped compoundId s).src j).state = .absorbed ↔ j = sourceOf (s.svc.comprec0.extractLsb' 0 5) := by
  have hin : compoundId ∈ s.svc.stack.map (·.source) := by rw [hs]; simp [ht]
  have hj := h.absorbed hm j
  simp only [hin, true_and] at hj
  rw [src_popped]
  split
  · next e =>
    subst e
    rw [← hj, ← ht, state_of_top h.core hs]
    simp
  · exact hj

/-- COMPOUND returns to Quiet, and the source that it absorbed joins the list (R109, R121). -/
theorem eventsValid_completeCompound {s : State} (h : s.EventsValid) (hm : s.mc.mode = .running) {top : StackEntry}
    {rest : List StackEntry} (hs : s.svc.stack = top :: rest) (ht : top.source = compoundId) :
    (settleCompleted compoundId (popStack s)).EventsValid := by
  have habs := absorbed_popped h.events hm hs ht
  have hpop : (popped compoundId s).EventsCore := ht ▸ eventsCore_popped h.events.core hs
  have hval : (popped compoundId s).Validated := ht ▸ validated_popped h hs
  have hi := (habs _).mpr rfl
  obtain ⟨l, hl⟩ := Option.isSome_iff_exists.mp ((hpop.latched _).mpr (.inr hi))
  have heq : settleCompleted compoundId (popStack s) = releaseAbsorbed (popped compoundId s) := rfl
  rw [heq, releaseAbsorbed, show (popped compoundId s).svc.comprec0 = s.svc.comprec0 from rfl]
  rw [if_pos hi, joinPending_eq]
  have hc := canJoin_absorbed hpop hi hl
  refine ⟨(eventsCore_join hpop hc _).agree (idleConfiguring_of_mode ?_) fun _ j => ?_,
    hval.of_replaced (src_joinState _ _ _ _ _) ⟨rfl, rfl, rfl⟩ (armed_congr .pending rfl hi)⟩
  · show s.mc.mode ≠ _
    rw [hm]
    decide
  · refine iff_of_false (fun ha => ?_) fun ⟨hin, _⟩ => ?_
    · rw [src_joinState] at ha
      split at ha
      · cases ha
      · next e => exact e ((habs j).mp ha).symm
    · have hsv := (hpop.serving compoundId).mpr hin
      rw [src_popped, if_pos rfl] at hsv
      cases hsv

/-- The re-latch of a popped source is its join after the pop (R107). -/
theorem relatch_popStack (i : SourceId) (s : State) :
    relatch i ((popStack s).setSrc i { (popStack s).src i with state := .quiet }) =
      joinState i (relatchedSource i s) (s.src i).freshClaimDeadline (s.arb.nextPosition + 1) (popped i s) := by
  have hsrc : ((popStack s).setSrc i { (popStack s).src i with state := .quiet }).src i
      = { s.src i with state := .quiet } := src_setSrc_self _ _ _
  rw [relatch_eq, relatchedSource, hsrc]
  unfold joinState popped
  simp only [setSrc_setSrc]
  rfl

/-- Where nothing was counted or kept back, a popped source is only made Quiet (R106). -/
theorem quiet_popStack {i : SourceId} {s : State} (hc : (s.src i).count = 0) (hr : (s.src i).repeatCount = 0) :
    (popStack s).setSrc i { (popStack s).src i with state := .quiet } = popped i s := by
  have hx : ({ s.src i with state := .quiet } : Source) = { s.src i with state := .quiet, count := 0, repeatCount := 0 } := by
    simp [hc, hr]
  exact congrArg ((popStack s).setSrc i) hx

/-- Another source returns to Quiet, or to the list with what was kept back (R106, R107). -/
theorem eventsValid_completeOther {s : State} (h : s.EventsValid) (hm : s.mc.mode = .running) {top : StackEntry}
    {rest : List StackEntry} (hs : s.svc.stack = top :: rest) (ht : top.source ≠ compoundId) :
    (settleCompleted top.source (popStack s)).EventsValid := by
  have hc := h.events.core
  have hpop := eventsCore_popped hc hs
  have hserving := state_of_top hc hs
  have hstack := popped_stack hs top.source
  have hpaired : (popped top.source s).AbsorbedPaired := fun _ j => by
    rw [hstack, src_popped]
    show _ ↔ compoundId ∈ rest.map (·.source) ∧ j = sourceOf (s.svc.comprec0.extractLsb' 0 5)
    have hj := h.events.absorbed hm j
    rw [hs, List.map_cons, List.mem_cons, or_iff_right ht.symm] at hj
    rw [← hj]
    split
    · next e => subst e; rw [hserving]; simp
    · rfl
  have hidle : (popped top.source s).IdleConfiguring :=
    idleConfiguring_of_mode (by show s.mc.mode ≠ _; rw [hm]; decide)
  unfold settleCompleted
  rw [if_neg ht]
  split
  · next hr =>
    have hr : (s.src top.source).repeatWaiting = true := hr
    have hr' : (s.src top.source).repeatCount ≠ 0 := by simpa [Source.repeatWaiting] using hr
    rw [relatch_popStack]
    have hself := src_popped top.source s top.source
    rw [if_pos rfl] at hself
    have hstate : ((popped top.source s).src top.source).state = .quiet := by rw [hself]
    have hjoin := canJoin_next (x := relatchedSource top.source s) hpop (tick := s.tc.count) ht
      (by rw [hstate]; decide) (by rw [hstate]; decide) (by rw [hself]; rfl) rfl hr' rfl rfl
    exact ⟨(eventsCore_join hpop hjoin _).agree (idleConfiguring_of_mode (by show s.mc.mode ≠ _; rw [hm]; decide))
        (absorbedPaired_join hpaired hm (by rw [hstate]; decide) rfl),
      (validated_popped h hs).of_replaced (src_joinState _ _ _ _ _) (by rw [hself]; exact ⟨rfl, rfl, rfl⟩)
        (armed_congr .pending rfl hstate)⟩
  · next hr =>
    have hr : ¬(s.src top.source).repeatWaiting = true := hr
    rw [quiet_popStack (hc.of_serving hserving).1 (by simpa [Source.repeatWaiting] using hr)]
    exact ⟨hpop.agree hidle hpaired, validated_popped h hs⟩

theorem eventsValid_complete {s : State} (h : s.EventsValid) {data : Word}
    (hc : writeRefusal s .complete data = none) : (settleCompleted (namedSource data) (popStack s)).EventsValid := by
  obtain ⟨hl, top, rest, hs, ht, -⟩ := accepted_complete hc
  have hm : s.mc.mode = .running := by
    cases hmode : s.mc.mode with
    | configuring =>
      have := (h.events.configuring hmode).2.1
      rw [hs] at this
      cases this
    | running => rfl
    | lockdown => exact absurd hmode hl
  rw [← ht]
  by_cases he : top.source = compoundId
  · rw [he]
    exact eventsValid_completeCompound h hm hs he
  · exact eventsValid_completeOther h hm hs he

/-! ## The commands -/

/-- Where every source is cleared and keeps its words, and Quiet or Disarmed, both hold (R47, R48). -/
theorem eventsValid_of_cleared {s t : State} (h : s.EventsValid) {st : SourceId → SrcState}
    (hst : ∀ i, st i = .disarmed ∨ st i = .quiet) (hsrc : ∀ i, t.src i = { (s.src i).cleared with state := st i })
    (ha : ∀ i, st i = .quiet → (s.src i).armed = true) (hc : st compoundId = .quiet) (ho : st overrunId = .quiet)
    (hw : t.arb.waiting = []) (hs : t.svc.stack = []) : t.EventsValid where
  events := eventsAgree_of_cleared hw hs
    (fun i => by rw [hsrc]; exact ⟨hst i, rfl, rfl, rfl⟩) (by rw [hsrc]; exact hc)
  armed :=
    { valid := fun i hi => by
        rw [hsrc] at hi ⊢
        have hq : st i = .quiet := (hst i).resolve_left fun e => by simp [Source.armed, e] at hi
        exact h.armed.valid i (ha i hq)
      overrun := by rw [hsrc]; exact armed_of_ne (by simp [ho]) }

/-- COMPOUND is armed (R70). -/
theorem State.EventsCore.compound_armed {s : State} (h : s.EventsCore) : (s.src compoundId).armed = true :=
  armed_of_ne (by rcases h.compound with e | e <;> rw [e] <;> decide)

theorem eventsValid_recover {s : State} (h : s.EventsValid) : (recoverEvents s).EventsValid := by
  have quiet (i : SourceId) (hi : (s.src i).armed = true) :
      (if (s.src i).state = .disarmed then SrcState.disarmed else .quiet) = .quiet :=
    if_neg (by simpa [Source.armed] using hi)
  refine eventsValid_of_cleared h (fun i => ?_) (src_recoverEvents s) (fun i hi => ?_)
    (quiet _ h.events.core.compound_armed) (quiet _ h.armed.overrun) rfl rfl
  · split
    · exact .inl rfl
    · exact .inr rfl
  · exact armed_of_ne fun e => by rw [if_pos e] at hi; cases hi

theorem eventsValid_reinit {s : State} (h : s.EventsValid) : (reinitialise s).EventsValid := by
  refine eventsValid_of_cleared h (fun i => ?_) (src_reinitialise s) (fun i hi => ?_)
    (if_pos (.inl rfl)) (if_pos (.inr rfl)) rfl rfl
  · split
    · exact .inr rfl
    · exact .inl rfl
  · split at hi
    · next e =>
      rcases e with rfl | rfl
      · exact h.events.core.compound_armed
      · exact h.armed.overrun
    · cases hi

/-- A source after a hard reset (R56). -/
theorem src_hardReset (s : State) (powerOn : Bool) (i : SourceId) : (hardReset powerOn s).src i = resetSource i := by
  show (Vector.ofFn resetSource)[i.val] = resetSource i
  exact Vector.getElem_ofFn i.isLt

theorem resetSource_idle (i : SourceId) :
    ((resetSource i).state = .disarmed ∨ (resetSource i).state = .quiet) ∧ (resetSource i).count = 0
      ∧ (resetSource i).repeatCount = 0 ∧ (resetSource i).latch = none := by
  revert i
  decide

theorem eventsValid_hardReset (s : State) (powerOn : Bool) : (hardReset powerOn s).EventsValid where
  events := eventsAgree_of_cleared rfl rfl (fun i => by rw [src_hardReset]; exact resetSource_idle i)
    (by rw [src_hardReset]; decide)
  armed :=
    { valid := fun i hi => by
        rw [src_hardReset] at hi ⊢
        revert i
        decide
      overrun := by rw [src_hardReset]; decide }

/-- Start and Stop find no source busy, and leave none (R39, R42, R45). -/
theorem eventsValid_mode {s t : State} (h : s.EventsValid) (hw : s.arb.waiting = []) (hs : s.svc.stack = [])
    (hb : ∀ i : SourceId, (s.src i).state ≠ .absorbed) (ha : t.arb.waiting = s.arb.waiting)
    (hn : t.arb.nextPosition = s.arb.nextPosition) (hv : t.svc = s.svc) (ht : t.srcs.table = s.srcs.table) :
    t.EventsValid := by
  have hc := h.events.core
  have src (i : SourceId) : t.src i = s.src i := by rw [State.src, ht]; rfl
  refine ⟨(hc.of_same (.of_units ha hn (by rw [hv]) ht)).agree (fun _ => ⟨by rw [ha, hw], by rw [hv, hs], fun i => ?_⟩)
    fun _ i => ?_, h.armed.of_table ht⟩
  · rw [busy_eq_false, src, ne_eq, ne_eq, hc.pending, hc.serving, hw, hs]
    exact ⟨nofun, nofun, hb i⟩
  · rw [src, hv, hs]
    exact iff_of_false (hb i) nofun

theorem eventsValid_command : CommandKeeps State.EventsValid where
  tick := eventsValid_tick
  outside := fun _ _ _ _ h => h.of_units rfl rfl rfl rfl (.inl rfl)
  hold := fun _ _ h => h.of_units rfl rfl rfl rfl (.inl rfl)
  record := fun _ _ h => h.of_units rfl rfl rfl rfl (.inl rfl)
  reject := fun _ _ _ _ h => h.of_units rfl rfl rfl rfl (.inl rfl)
  identity := fun _ _ _ h => h.of_units rfl rfl rfl rfl (.inl rfl)
  reset := eventsValid_hardReset
  sample := fun _ _ _ h => h.of_units rfl rfl rfl rfl (.inl rfl)
  settle := fun _ h => h.of_units rfl rfl rfl rfl (.inl rfl)
  refuse := fun _ _ _ h => h.of_units rfl rfl rfl rfl (.inl rfl)
  seen := fun _ h => h.of_units rfl rfl rfl rfl (.inl rfl)
  snapshot := fun _ h => h.of_units rfl rfl rfl rfl (.inl rfl)
  claim := fun _ _ he h => eventsValid_claim h he
  announce := fun s _ h => eventsValid_mapTop (f := fun e => { e with announced := true }) h (fun _ => ⟨rfl, fun _ => rfl⟩) _
  put := fun _ _ _ hc h => eventsValid_putReg h hc
  arm := fun _ _ hc h => eventsValid_arm h hc
  disarm := fun _ _ hc h => eventsValid_disarm h hc
  complete := fun _ _ hc h => eventsValid_complete h hc
  release := fun _ _ h => h.of_units rfl rfl rfl rfl (.inl rfl)
  start := fun s hm h => by
    obtain ⟨hw, hs, hb⟩ := h.events.configuring hm
    exact eventsValid_mode h hw hs (fun i => (busy_eq_false.mp (hb i)).2.2) rfl rfl rfl rfl
  stop := fun s hm hs hw h => eventsValid_mode h hw hs
    (fun i e => by simpa [hs] using ((h.events.absorbed hm i).mp e).1) rfl rfl rfl rfl
  recover := fun _ _ h => eventsValid_recover h
  reinit := fun _ _ h => eventsValid_reinit h
  sealing := fun _ h => h.of_units rfl rfl rfl rfl (.inl rfl)
  taken := fun _ _ _ h => h.of_units rfl rfl rfl rfl (.inl rfl)

/-- Settles O59: the agreement and the validity, with OVERRUN armed, are a property of `CommandKeeps`. -/
theorem stepKeepsEventsAgree : Obligations.StepKeepsEventsAgree := by
  unfold Obligations.StepKeepsEventsAgree
  intro s t hl hx
  have hv : s.EventsValid := ⟨hl.events, hl.armed, hl.atRest.bounded.armed _ (.inl rfl)⟩
  obtain ⟨he, ha⟩ := eventsValid_command.step hv hx
  exact ⟨he, ha.valid⟩

end Sys2Proof.Machine
end

section
/-! PROOFS. What the happenings leave of the link's wires; the legal states of the link; then O57. -/

namespace Sys2Proof.Machine

-- one proof after another: each thread that elaborates costs the check a GiB of its memory limit
set_option Elab.async false

/-! ## Happenings leave the wires -/

/-- The wires of the link, its frame in progress and the resets are as they were: what differs in the link unit is the
hold, the fault register, the count and the record. -/
structure SameWire (s t : State) : Prop where
  rst  : t.rst = s.rst
  link : t.link = { s.link with
    hold := t.link.hold, linkFault := t.link.linkFault, linkCount := t.link.linkCount, prev := t.link.prev }

theorem SameWire.refl (s : State) : SameWire s s := ⟨rfl, rfl⟩

theorem SameWire.trans {s t u : State} (h : SameWire s t) (g : SameWire t u) : SameWire s u :=
  ⟨g.rst.trans h.rst, by rw [g.link, h.link]⟩

theorem SameWire.of_frame {s t : State} (h : EngineFrame s t) : SameWire s t := ⟨h.rst, by rw [h.link]⟩

theorem SameWire.of_units {s t : State} (hr : t.rst = s.rst) (hl : t.link = s.link) : SameWire s t :=
  ⟨hr, by rw [hl]⟩

theorem wire_markHold {s t : State} (h : SameWire s t) (n : Byte) : SameWire s (markHold n t) :=
  h.trans (.of_frame (frame_markHold n t))

theorem wire_tick (s : State) : TickKeeps (SameWire s) where
  engine := .of_frame fun _ _ g h => h.trans (.of_frame g)
  compare := fun t h => h.trans <| by
    unfold compareReadback
    dsimp only
    split
    · exact ⟨rfl, rfl⟩
    · refine wire_markHold ?_ _
      exact .of_units rfl rfl
  top := fun _ _ h => h.trans ⟨rfl, rfl⟩
  overrun := fun _ _ h => h.trans ⟨rfl, rfl⟩
  entry := fun _ _ _ h => h.trans ⟨rfl, rfl⟩
  expired := fun _ _ h => h.trans ⟨rfl, rfl⟩
  watchdog := fun _ _ h => h.trans ⟨rfl, rfl⟩

theorem wire_putReg (r : Reg) (data : Word) (s : State) : SameWire s (putReg r data s) := by
  cases r with
  | linkfault => exact ⟨rfl, rfl⟩
  | linkcount => exact ⟨rfl, rfl⟩
  | _ => exact .of_units rfl rfl

@[simp] theorem disarmSources_link (s : State) : (disarmSources s).link = s.link := by simp only [disarmSources]
@[simp] theorem disarmSources_rst (s : State) : (disarmSources s).rst = s.rst := by simp only [disarmSources]

theorem wire_reinitialise (s : State) : SameWire s (reinitialise s) := by
  have hd : SameWire s (disarmSources (clearEvents s)) := .of_units (disarmSources_rst _) (disarmSources_link _)
  unfold reinitialise
  generalize disarmSources (clearEvents s) = t at hd
  exact hd.trans (.of_units rfl rfl)

theorem wire_request (s : State) : RequestKeeps (SameWire s) where
  tick := wire_tick s
  settle := fun _ h => h.trans (.of_units rfl rfl)
  hold := fun _ _ h => h.trans ⟨rfl, rfl⟩
  record := fun _ _ h => h.trans ⟨rfl, rfl⟩
  reject := fun _ _ _ _ h => h.trans ⟨rfl, rfl⟩
  refuse := fun _ _ _ h => h.trans (.of_units rfl rfl)
  seen := fun _ h => h.trans (.of_units rfl rfl)
  snapshot := fun _ h => h.trans (.of_units rfl rfl)
  claim := fun _ _ _ h => h.trans (.of_units rfl rfl)
  announce := fun _ _ h => h.trans (.of_units rfl rfl)
  put := fun s r data _ h => h.trans (wire_putReg r data s)
  arm := fun _ _ _ h => by
    unfold armSource
    split
    · exact h
    · exact h.trans (.of_units rfl rfl)
  disarm := fun _ _ _ h => by
    unfold disarmSource
    split
    · exact h.trans (.of_units rfl rfl)
    · exact h
  complete := fun t data _ h =>
    (h.trans (.of_units rfl rfl : SameWire t (popStack t))).trans (.of_frame (frame_settleCompleted _ _))
  release := fun _ _ h => h.trans (.of_units rfl rfl)
  start := fun _ _ h => h.trans (.of_units rfl rfl)
  stop := fun _ _ _ _ h => h.trans (.of_units rfl rfl)
  recover := fun _ _ h => h.trans (.of_units rfl rfl)
  reinit := fun t _ h => h.trans (wire_reinitialise t)
  sealing := fun _ h => h.trans (.of_units rfl rfl)
  taken := fun _ _ _ h => h.trans (.of_units rfl rfl)

theorem wire_finish (w : Work) : SameWire w.st (finish w) := (wire_request w.st).finish (.refl _)

theorem wire_completeFrame (s : State) (lengthOk : Bool) (f : Frame48) : SameWire s (completeFrame lengthOk f s) :=
  (wire_request s).completeFrame (.refl s) lengthOk f

theorem wire_rejectFrame (s : State) (cause : FrameOutcome) (tag : BitVec 4) (index : Byte) :
    SameWire s (rejectFrame cause tag index s) :=
  (wire_request s).rejectFrame (.refl s) cause tag index

theorem wire_tickHappening (s : State) (lines : BitVec 24) (readback : Word) :
    SameWire s (tickHappening lines readback s) :=
  (wire_tick s).tickHappening (.of_units rfl rfl) fun _ h => h.trans ⟨rfl, rfl⟩

/-! ## The legal states of the link -/

theorem State.LinkLegal.of_wire {s t : State} (h : s.LinkLegal) (g : SameWire s t) : t.LinkLegal := by
  obtain ⟨hr, hl⟩ := g
  constructor
  · unfold State.linkIdle; rw [hl]; exact h.ready
  · rw [hl]; exact h.released
  · rw [hl]; exact h.shifting
  · rw [hr, hl]; exact h.barred
  · rw [hl]; exact h.edges
  · rw [hl]; exact h.idle

/-- No reset bars a link that is not Barred (R54). -/
theorem State.LinkLegal.open_of_ne {s : State} (h : s.LinkLegal) (hp : s.link.phase ≠ .barred) :
    ¬(s.rst.held = true ∨ s.rst.intervalLeft ≠ 0) := fun hr => hp (h.barred hr)

/-- Between frames the link is legal in each of its states, if LSEL stands at the level that the state asks for and no
reset calls for another (R1). -/
theorem linkLegal_closeFrame {s : State} {p : LinkPhase} (hready : p = .ready → s.link.lselHigh = true)
    (hshift : p = .shifting → s.link.lselHigh = false)
    (hbar : s.rst.held = true ∨ s.rst.intervalLeft ≠ 0 → p = .barred) : (closeFrame p s).LinkLegal where
  ready := fun hp => ⟨hp, hready hp, rfl, rfl, rfl, rfl, rfl⟩
  released := fun _ => ⟨rfl, rfl⟩
  shifting := hshift
  barred := hbar
  edges := Nat.zero_le _
  idle := by show 0 < Config.idleLimit; decide

theorem linkLegal_lselFall {s : State} (h : s.LinkLegal) : (lselFall s).LinkLegal := by
  unfold lselFall
  dsimp only
  split
  · next hp =>
    exact linkLegal_closeFrame nofun (fun _ => rfl) fun hr => absurd hr (h.open_of_ne (by rw [hp]; decide))
  · next hp =>
    exact ⟨fun hr => absurd hr hp, h.released, fun _ => rfl, h.barred, h.edges, h.idle⟩

theorem linkLegal_lselRise {s : State} (h : s.LinkLegal) : (lselRise s).LinkLegal := by
  have hopen (hp : s.link.phase ≠ .barred) :
      (closeFrame .ready { s with link := { s.link with lselHigh := true } }).LinkLegal :=
    linkLegal_closeFrame (fun _ => rfl) nofun fun hr => absurd hr (h.open_of_ne hp)
  unfold lselRise
  dsimp only
  split
  · next hp =>
    obtain ⟨hph, -, hrest⟩ := h.ready hp
    exact ⟨fun _ => ⟨hph, rfl, hrest⟩, h.released, fun hs => absurd (hp.symm.trans hs) (by decide), h.barred, h.edges,
      h.idle⟩
  · next hp => exact hopen (by rw [hp]; decide)
  · next hp =>
    split
    · exact ⟨fun hr => absurd (hp.symm.trans hr) (by decide), h.released,
        fun hs => absurd (hp.symm.trans hs) (by decide), h.barred, h.edges, h.idle⟩
    · next hr =>
      refine linkLegal_closeFrame (fun _ => rfl) nofun fun hb => absurd ?_ hr
      simpa using hb
  · next hp =>
    have hc := hopen (by rw [hp]; decide)
    split
    · exact hc
    · exact hc.of_wire (wire_completeFrame _ _ _)

/-- A change of the frame in progress, within the limits of its counts, leaves the link legal (R1, R2). -/
theorem linkLegal_shifting {s : State} (h : s.LinkLegal) (hp : s.link.phase = .shifting) {l : LinkUnit}
    (hphase : l.phase = s.link.phase) (hlsel : l.lselHigh = s.link.lselHigh) (he : l.edges ≤ Config.edgeLimit)
    (hi : l.idle < Config.idleLimit) : State.LinkLegal { s with link := l } where
  ready := fun hr => absurd (hp.symm.trans (hphase.symm.trans hr)) (by decide)
  released := fun hn => absurd (hphase.trans hp) hn
  shifting := fun _ => hlsel.trans (h.shifting hp)
  barred := fun hr => hphase.trans (h.barred hr)
  edges := he
  idle := hi

theorem State.LinkLegal.ite {c : Prop} [Decidable c] {s t : State} (h : s.LinkLegal) (g : t.LinkLegal) :
    (if c then s else t).LinkLegal := by
  split
  · exact h
  · exact g

theorem linkLegal_receiveRest {s : State} (h : s.LinkLegal) (m : Nat) (f : Frame48) : (receiveRest m f s).LinkLegal := by
  have hidle (total n : Nat) : (if total = n then s.link.idle else 0) < Config.idleLimit := by
    split
    · exact h.idle
    · decide
  unfold receiveRest
  dsimp only
  by_cases hp : s.link.phase = .shifting
  · rw [if_pos hp]
    exact .ite (linkLegal_shifting h hp rfl rfl (Nat.min_le_left _ _) (hidle _ _))
      (linkLegal_shifting h hp rfl rfl (Nat.min_le_left _ _) (hidle _ _))
  · rw [if_neg hp]
    exact h

theorem linkLegal_hostFrame {s : State} (h : s.LinkLegal) (m : Nat) (f : Frame48) : (hostFrame m f s).LinkLegal :=
  linkLegal_lselRise (linkLegal_receiveRest (linkLegal_lselFall h) m f)

theorem linkLegal_lckRise {s : State} (h : s.LinkLegal) (ldi : Bool) : (lckRise ldi s).LinkLegal := by
  unfold lckRise
  dsimp only
  split
  · next hp =>
    split <;> exact linkLegal_shifting h hp rfl rfl (Nat.min_le_left _ _) (show 0 < Config.idleLimit by decide)
  · exact h

theorem linkLegal_lckFall {s : State} (h : s.LinkLegal) : (lckFall s).LinkLegal := by
  unfold lckFall
  split
  · next hp =>
    split <;> exact linkLegal_shifting h hp.1 rfl rfl h.edges h.idle
  · exact h

theorem linkLegal_idleTimeout {s : State} (h : s.LinkLegal) : (idleTimeout s).LinkLegal := by
  unfold idleTimeout
  split
  · next hp =>
    have hc : (closeFrame .spent s).LinkLegal :=
      linkLegal_closeFrame nofun nofun fun hr => absurd hr (h.open_of_ne (by rw [hp]; decide))
    exact hc.of_wire (wire_rejectFrame _ _ _ _)
  · exact h

theorem linkLegal_endInterval {s : State} (h : s.LinkLegal) (hh : s.rst.held = false) : (endInterval s).LinkLegal := by
  unfold endInterval
  dsimp only
  have hno : ¬(s.rst.held = true ∨ (0 : Nat) ≠ 0) := by simp [hh]
  split
  · next hl => exact linkLegal_closeFrame (fun _ => hl) nofun fun hr => absurd hr hno
  · exact ⟨h.ready, h.released, h.shifting, fun hr => absurd hr hno, h.edges, h.idle⟩

theorem linkLegal_countInterval {s : State} (h : s.LinkLegal) (hh : s.rst.held = false) :
    (countInterval s).LinkLegal := by
  unfold countInterval
  split
  · exact h
  · next h0 =>
    split
    · exact linkLegal_endInterval h hh
    · exact ⟨h.ready, h.released, h.shifting, fun _ => h.barred (.inr h0), h.edges, h.idle⟩

theorem linkLegal_countIdle {s : State} (h : s.LinkLegal) : (countIdle s).LinkLegal := by
  unfold countIdle
  split
  · next hp =>
    dsimp only
    split
    · unfold idleTimeout
      rw [if_pos (show s.link.phase = .shifting from hp)]
      have hc : (closeFrame .spent { s with link := { s.link with idle := s.link.idle + 1 } }).LinkLegal :=
        linkLegal_closeFrame nofun nofun fun hr => absurd hr (h.open_of_ne (by rw [hp]; decide))
      exact hc.of_wire (wire_rejectFrame _ _ _ _)
    · next hi => exact linkLegal_shifting h hp rfl rfl h.edges (Nat.lt_of_not_le hi)
  · exact h

theorem linkLegal_scanTick {s : State} (h : s.LinkLegal) (lines : BitVec 24) (readback : Word) :
    (scanTick lines readback s).LinkLegal := by
  unfold scanTick
  split
  · exact h
  · next hh =>
    have hw := wire_tickHappening s lines readback
    refine linkLegal_countIdle (linkLegal_countInterval (h.of_wire hw) ?_)
    rw [hw.rst]
    exact Bool.eq_false_iff.mpr hh

theorem linkLegal_hardReset (s : State) (powerOn : Bool) : (hardReset powerOn s).LinkLegal where
  ready := nofun
  released := fun _ => ⟨rfl, rfl⟩
  shifting := nofun
  barred := fun _ => rfl
  edges := Nat.zero_le _
  idle := by show 0 < Config.idleLimit; decide

theorem linkLegal_exec {s t : State} {c : Instr} (h : s.LinkLegal) (hx : exec c s = .next t) : t.LinkLegal := by
  have expiry {w : Work} (hs : SameWire s w.st) : (finish w).LinkLegal := h.of_wire (hs.trans (wire_finish w))
  cases hf : frameOf c with
  | some r =>
    obtain rfl := Host.Outcome.next.inj ((exec_of_frameOf hf s).symm.trans hx)
    exact linkLegal_hostFrame h _ _
  | none =>
    have keep {u : State} (e : exec c s = .next u) (hu : u.LinkLegal) : t.LinkLegal := by
      obtain rfl := Host.Outcome.next.inj (e.symm.trans hx)
      exact hu
    cases c with
    | powerOnReset => exact keep rfl (linkLegal_hardReset s true)
    | pinReset => exact keep rfl (linkLegal_hardReset s _)
    | hardResetRelease ida idb =>
      refine keep rfl ?_
      split
      · next hh =>
        exact ⟨h.ready, h.released, h.shifting, fun _ => h.barred (.inl hh), h.edges, h.idle⟩
      · exact h
    | resetIntervalEnd =>
      refine keep rfl ?_
      split
      · exact h
      · next hr => exact linkLegal_endInterval h (by simp at hr; exact hr.1)
    | lselFall => exact keep rfl (linkLegal_lselFall h)
    | lselRise => exact keep rfl (linkLegal_lselRise h)
    | nullFrame => exact keep rfl (linkLegal_hostFrame h 0 0)
    | frameRejection m f => exact keep rfl (linkLegal_hostFrame h m f)
    | idleTimeout => exact keep rfl (linkLegal_idleTimeout h)
    | lckRisingEdge ldi => exact keep rfl (linkLegal_lckRise h ldi)
    | lckFallingEdge => exact keep rfl (linkLegal_lckFall h)
    | scanTick lines readback => exact keep rfl (linkLegal_scanTick h lines readback)
    | serviceDeadlineExpiry =>
      refine keep rfl ?_
      split
      · split
        · exact h
        · exact expiry ((wire_tick s).expireService (w := begin s) (.refl s) _)
      · exact h
    | nestedOverrun =>
      refine keep rfl ?_
      split
      · split
        · exact expiry ((wire_tick s).expireNested (w := begin s) (.refl s) _)
        · exact h
      · exact h
    | claimDeadlineExpiry source =>
      refine keep rfl ?_
      split
      · next hd => exact expiry ((wire_tick s).expireClaim (w := begin s) (.refl s) (mem_of_claimDeadline_runs hd.2.2))
      · exact h
    | watchdogExpiry =>
      refine keep rfl ?_
      split
      · exact expiry ((wire_tick s).expireWatchdog (w := begin s) (.refl s))
      · exact h
    | _ => cases hf

/-- Settles O57, by the link's part of each command. -/
theorem stepKeepsLinkLegal : Obligations.StepKeepsLinkLegal := by
  unfold Obligations.StepKeepsLinkLegal
  intro s t h hx
  unfold step at hx
  split at hx
  · exact Host.Outcome.next.inj hx ▸ h
  · next rest _ => exact linkLegal_exec (h.of_wire (t := { s with pending := rest }) (.of_units rfl rfl)) hx

end Sys2Proof.Machine
end

section
/-! PROOFS. The writes that Lockdown accepts (O20), and the evidence that it keeps (O60). -/

namespace Sys2Proof.Machine

-- one proof after another: each thread that elaborates costs the check a GiB of its memory limit
set_option Elab.async false

/-! ## The writes that Lockdown accepts -/

/-- The action codes that Lockdown accepts (R28, R30). -/
theorem lockdown_accepts_action {s : State} (hm : s.mc.mode = .lockdown) (data : Word) :
    writeRefusal s .action data = none ↔
      data = 5 ∨ data = 7 ∨ data = 8 ∨ ((data = 3 ∨ data = 6) ∧ s.mc.causeSeen = true) := by
  have hr : writeRefusal s .action data = none ↔
      data ≠ 1 ∧ data ≠ 2 ∧ data ≠ 4 ∧ (1 ≤ data.toNat ∧ data.toNat ≤ 8)
        ∧ ((data = 3 ∨ data = 6) → s.mc.causeSeen = true) := by
    unfold writeRefusal modeRefuses specificRefusal sealProtected
    simp only [hm]
    grind
  rw [hr]
  cases s.mc.causeSeen <;> simp only [Bool.false_eq_true, and_false, and_true, or_false, imp_false, implies_true]
  · bv_omega
  · bv_omega

/-- The Mode check lets no other register through in Lockdown, but those that clear a count or a flag (R28). -/
theorem lockdown_refuses {s : State} (hm : s.mc.mode = .lockdown) {r : Reg} {data : Word}
    (h : writeRefusal s r data = none) : r = .action ∨ r = .linkfault ∨ r = .linkcount ∨ r = .mismatchdet := by
  have hr := mode_of_accepted h
  rw [hm] at hr
  cases r with
  | action => exact .inl rfl
  | linkfault => exact .inr (.inl rfl)
  | linkcount => exact .inr (.inr (.inl rfl))
  | mismatchdet => exact .inr (.inr (.inr rfl))
  | desc i w =>
    simp only [modeRefuses] at hr
    split at hr <;> cases hr
  | _ => cases hr

/-- Settles O20: the Mode check leaves four registers, and ACTION's own checks its codes. -/
theorem lockdownAcceptsOnlyItsWrites : Obligations.LockdownAcceptsOnlyItsWrites := by
  unfold Obligations.LockdownAcceptsOnlyItsWrites
  intro s r data hm _
  constructor
  · intro h
    rcases lockdown_refuses hm h with rfl | rfl | rfl | rfl
    · exact .inl ⟨rfl, (lockdown_accepts_action hm data).mp h⟩
    · exact .inr (.inl ⟨rfl, by simpa [specificRefusal] using specific_of_accepted h⟩)
    · exact .inr (.inr (.inl rfl))
    · exact .inr (.inr (.inr rfl))
  · rintro (⟨rfl, h⟩ | ⟨rfl, h⟩ | rfl | rfl)
    · exact (lockdown_accepts_action hm data).mpr h
    · simp [writeRefusal, modeRefuses, sealProtected, specificRefusal, h]
    · simp [writeRefusal, modeRefuses, sealProtected, specificRefusal]
    · simp [writeRefusal, modeRefuses, sealProtected, specificRefusal]

/-! ## What a command keeps of the evidence -/

/-- The node is in Lockdown with its evidence as it was, but for records that were taken, and what was seen of the cause
is not forgotten (R126). -/
structure KeptLocked (s t : State) : Prop where
  mode     : t.mc.mode = .lockdown
  evidence : s.SameEvidence t
  unread   : ∃ n, t.jn.unread = s.jn.unread.drop n
  seen     : s.mc.causeSeen = true → t.mc.causeSeen = true

theorem KeptLocked.refl {s : State} (h : s.mc.mode = .lockdown) : KeptLocked s s :=
  ⟨h, ⟨rfl, rfl, rfl, rfl, rfl, ⟨rfl, rfl⟩, ⟨rfl, rfl, rfl⟩, ⟨rfl, rfl, rfl⟩, ⟨rfl, rfl⟩, ⟨rfl, rfl⟩, rfl⟩,
    ⟨0, (List.drop_zero).symm⟩, id⟩

/-- An update of the link, the resets, the samples, the node's identity and snapshot, of the alert and the readback
check, and of REFUSAL, keeps the evidence. -/
theorem KeptLocked.of_units {s t u : State} (h : KeptLocked s t)
    (mc : u.mc = { t.mc with nodeId := u.mc.nodeId, resetCause := u.mc.resetCause, causeSeen := u.mc.causeSeen })
    (seen : t.mc.causeSeen = true → u.mc.causeSeen = true)
    (regs : u.regs = { t.regs with refusal := u.regs.refusal }) (srcs : u.srcs = t.srcs)
    (waiting : u.arb.waiting = t.arb.waiting) (svc : u.svc = t.svc) (dl : u.dl = t.dl)
    (act : u.act = { t.act with
      effective := u.act.effective, moved := u.act.moved, counters := u.act.counters
      mismatchSet := u.act.mismatchSet, mismatchDet := u.act.mismatchDet })
    (unread : ∃ n, u.jn.unread = t.jn.unread.drop n) (filter : u.jn.filter = t.jn.filter) : KeptLocked s u := by
  obtain ⟨hm, he, ⟨n, hn⟩, hs⟩ := h
  obtain ⟨k, hk⟩ := unread
  refine ⟨by rw [mc]; exact hm, ?_, ⟨n + k, by rw [hk, hn, List.drop_drop]⟩, fun h => seen (hs h)⟩
  exact
    { srcs := srcs.trans he.srcs
      waiting := waiting.trans he.waiting
      svc := svc.trans he.svc
      dl := dl.trans he.dl
      sets := by rw [act]; exact he.sets
      frozen := by rw [act]; exact he.frozen
      levels := by rw [act]; exact he.levels
      policy := by rw [regs]; exact he.policy
      guards := by rw [regs]; exact he.guards
      lockrec := by rw [mc]; exact he.lockrec
      filter := filter.trans he.filter }

/-- An update of the link, the resets, the samples and the tick counter keeps the evidence. -/
theorem KeptLocked.of_link {s t u : State} (h : KeptLocked s t) (mc : u.mc = t.mc) (regs : u.regs = t.regs)
    (srcs : u.srcs = t.srcs) (arb : u.arb = t.arb) (svc : u.svc = t.svc) (dl : u.dl = t.dl) (act : u.act = t.act)
    (jn : u.jn = t.jn) : KeptLocked s u :=
  h.of_units (by rw [mc]) (by rw [mc]; exact id) (by rw [regs]) srcs (by rw [arb]) svc dl (by rw [act])
    ⟨0, by rw [jn, List.drop_zero]⟩ (by rw [jn])

theorem KeptLocked.endHappening {s t : State} (h : KeptLocked s t) : KeptLocked s (endHappening t) :=
  h.of_units rfl id rfl rfl rfl rfl rfl rfl ⟨0, (List.drop_zero).symm⟩ rfl

/-- In Lockdown nothing is live, so that a happening only ends (R94). -/
theorem KeptLocked.finish {s : State} {w : Work} (h : KeptLocked s w.st) : KeptLocked s (finish w) := by
  have hl : w.live = false := by simp [Work.live, h.mode]
  show KeptLocked s (Machine.endHappening (drain w).st)
  rw [drain_st_of_not_live hl]
  exact h.endHappening

theorem KeptLocked.rejectFrame {s t : State} (h : KeptLocked s t) (cause : FrameOutcome) (tag : BitVec 4)
    (index : Byte) : KeptLocked s (rejectFrame cause tag index t) := by
  have hr : KeptLocked s (recordRejection cause tag index t) := h.of_link rfl rfl rfl rfl rfl rfl rfl rfl
  unfold Machine.rejectFrame
  refine KeptLocked.finish ?_
  rw [occur_of_not_live (by simp [Work.live, begin, Work.map, recordRejection, h.mode])]
  exact hr

/-- What becomes of Lockdown: it stays with its evidence, or Configuring follows once the cause had been seen (R46). -/
def LockedOutcome (s t : State) : Prop := KeptLocked s t ∨ (t.mc.mode = .configuring ∧ s.mc.causeSeen = true)

theorem LockedOutcome.finish {s : State} {w : Work} (h : LockedOutcome s w.st) : LockedOutcome s (finish w) := by
  rcases h with h | ⟨hm, hs⟩
  · exact .inl h.finish
  · have hl : w.live = false := by simp [Work.live, hm]
    refine .inr ⟨?_, hs⟩
    show (Machine.endHappening (drain w).st).mc.mode = _
    rw [drain_st_of_not_live hl]
    exact hm

/-- A refusal for any reason but an invalid descriptor keeps ARMCHECK (R33). -/
theorem keptLocked_refuse {s : State} {w : Work} (h : KeptLocked s w.st) {reason : Reason} (index : Byte)
    (hr : ∀ n, reason ≠ .invalidDescriptor n) : KeptLocked s (refuse reason index w).1.st := by
  refine h.of_units rfl id ?_ rfl rfl rfl rfl rfl ⟨0, (List.drop_zero).symm⟩ rfl
  cases reason with
  | invalidDescriptor n => exact absurd rfl (hr n)
  | _ => rfl

/-- In Lockdown no Write is refused for its descriptor: the Mode check comes first (R28, R31). -/
theorem lockdown_refusal_ne_invalid {s : State} (hm : s.mc.mode = .lockdown) {r : Reg} {data : Word} {reason : Reason}
    (h : writeRefusal s r data = some reason) (n : BitVec 4) : reason ≠ .invalidDescriptor n := by
  rintro rfl
  unfold writeRefusal at h
  split at h
  · cases h
  next hmode =>
  split at h
  · cases h
  rw [hm] at hmode
  cases r with
  | action =>
    simp only [specificRefusal] at h
    split_ifs at h <;> cases h
  | linkfault =>
    simp only [specificRefusal] at h
    split_ifs at h
    cases h
  | linkcount => cases h
  | mismatchdet => cases h
  | desc i w =>
    simp only [modeRefuses] at hmode
    split at hmode
    · exact hmode rfl
    · exact hmode rfl
  | _ => exact hmode rfl

theorem lockedOutcome_doAction {s : State} {w : Work} (h : KeptLocked s w.st) {data : Word}
    (hs : w.st.mc = s.mc) (hc : writeRefusal w.st .action data = none) :
    LockedOutcome s (doAction data w).1.st := by
  have writes (old : Mode) {u : Work} (hu : u.st.mc.mode = .configuring) :
      (writeModeRecord old u).st.mc.mode = .configuring := by
    rw [writeModeRecord, writeRecord_mc]
    exact hu
  rcases (lockdown_accepts_action h.mode data).mp hc with rfl | rfl | rfl | ⟨rfl | rfl, hseen⟩
  · left
    show KeptLocked s (doForceLockdown w).st
    rw [doForceLockdown, if_pos h.mode]
    exact h
  · left
    obtain ⟨n, window, e⟩ := takeRecord_putTaken w.st
    show KeptLocked s (takeRecord w.st)
    rw [e]
    exact h.of_units rfl id rfl rfl rfl rfl rfl rfl ⟨n, rfl⟩ rfl
  · left
    show KeptLocked s (doJournalClear w).st
    exact h.of_units rfl id rfl rfl rfl rfl rfl rfl ⟨w.st.jn.unread.length, (List.drop_length).symm⟩ rfl
  · exact .inr ⟨writes .lockdown (u := w.map recoverEvents) rfl, hs ▸ hseen⟩
  · exact .inr ⟨writes _ (u := w.map reinitialise) rfl, hs ▸ hseen⟩

theorem lockedOutcome_executeWrite {s : State} {w : Work} (h : KeptLocked s w.st) (hs : w.st.mc = s.mc) (index : Byte)
    (r : Reg) (data : Word) : LockedOutcome s (executeWrite index r data w).1.st := by
  unfold executeWrite
  split
  · next hr => exact .inl (keptLocked_refuse h index (lockdown_refusal_ne_invalid h.mode hr))
  · next hc =>
    rcases lockdown_refuses h.mode hc with rfl | rfl | rfl | rfl
    · exact lockedOutcome_doAction h hs hc
    · exact .inl (h.of_link rfl rfl rfl rfl rfl rfl rfl rfl)
    · exact .inl (h.of_link rfl rfl rfl rfl rfl rfl rfl rfl)
    · exact .inl (h.of_units rfl id rfl rfl rfl rfl rfl rfl ⟨0, (List.drop_zero).symm⟩ rfl)

theorem keptLocked_executeRead {s : State} {w : Work} (h : KeptLocked s w.st) (index : Byte) (r : Reg) :
    KeptLocked s (executeRead index r w).1.st := by
  cases r with
  | claim =>
    show KeptLocked s (executeClaim index w).1.st
    rw [executeClaim, if_pos h.mode]
    exact keptLocked_refuse h index nofun
  | lockrec => exact h.of_units rfl (fun _ => rfl) rfl rfl rfl rfl rfl rfl ⟨0, (List.drop_zero).symm⟩ rfl
  | timeHi => exact h.of_link rfl rfl rfl rfl rfl rfl rfl rfl
  | _ => exact h

theorem lockedOutcome_executeRequest {s : State} {w : Work} (h : KeptLocked s w.st) (hs : w.st.mc = s.mc) (s0 : State)
    (r : Request) (reg : Reg) : LockedOutcome s (executeRequest s0 r reg w).1.st := by
  unfold executeRequest
  split
  · exact .inl h
  · exact .inl (keptLocked_executeRead h _ _)
  · exact .inl (h.of_link rfl rfl rfl rfl rfl rfl rfl rfl)
  · split
    · exact .inl h
    · exact lockedOutcome_executeWrite h hs _ _ _

/-- Outside Running the record of a frame is all that its reply leaves (R21, R136). -/
theorem recordReply_of_not_running {s : State} (h : s.mc.mode ≠ .running) (r : Request) (reply : Reply) :
    recordReply r reply s = recordFrame { outcome := reply.outcome, tag := r.tag, data := reply.data } s := by
  unfold recordReply
  dsimp only
  rw [if_neg]
  simp [recordFrame, h]

theorem LockedOutcome.not_running {s t : State} (h : LockedOutcome s t) : t.mc.mode ≠ .running := by
  rcases h with h | h
  · rw [h.mode]; decide
  · rw [h.1]; decide

theorem LockedOutcome.recordReply {s t : State} (h : LockedOutcome s t) (r : Request) (reply : Reply) :
    LockedOutcome s (recordReply r reply t) := by
  rw [recordReply_of_not_running h.not_running]
  exact h.imp (fun h => h.of_link rfl rfl rfl rfl rfl rfl rfl rfl) id

theorem lockedOutcome_admitFrame {s t : State} (h : KeptLocked s t) (hs : t.mc = s.mc) (r : Request) (reg : Reg) :
    LockedOutcome s (admitFrame r reg t) := by
  have h0 : KeptLocked s ((begin t).map endHold).st := h.of_link rfl rfl rfl rfl rfl rfl rfl rfl
  have hx := lockedOutcome_executeRequest h0 hs t r reg
  rw [admitFrame_eq]
  refine LockedOutcome.finish ?_
  have hr := hx.recordReply r (executeRequest t r reg ((begin t).map endHold)).2
  unfold raiseOccurrence
  split
  · rw [occur_of_not_live]
    · exact hr
    · simpa [Work.live] using hr.not_running
  · exact hr

theorem lockedOutcome_completeFrame {s t : State} (h : KeptLocked s t) (hs : t.mc = s.mc) (lengthOk : Bool)
    (f : Frame48) : LockedOutcome s (completeFrame lengthOk f t) := by
  unfold completeFrame
  dsimp only
  split
  · exact .inl (h.rejectFrame _ _ _)
  split
  · exact .inl (h.rejectFrame _ _ _)
  split
  · exact .inl (h.rejectFrame _ _ _)
  split
  · exact .inl h
  split
  · exact lockedOutcome_admitFrame h hs _ _
  split
  · exact .inl (h.rejectFrame _ _ _)
  · exact lockedOutcome_admitFrame h hs _ _

/-- A change of the link unit keeps the evidence. -/
theorem KeptLocked.link {s t u : State} (h : KeptLocked s t) (e : u = { t with link := u.link }) : KeptLocked s u := by
  rw [e]
  exact h.of_link rfl rfl rfl rfl rfl rfl rfl rfl

theorem lockedOutcome_lselRise {s t : State} (h : KeptLocked s t) (hs : t.mc = s.mc) : LockedOutcome s (lselRise t) := by
  unfold lselRise
  dsimp only
  split
  · exact .inl (h.link rfl)
  · exact .inl (h.link rfl)
  · split
    · exact .inl (h.link rfl)
    · exact .inl (h.link rfl)
  · split
    · exact .inl (h.link rfl)
    · refine lockedOutcome_completeFrame (t := closeFrame .ready { t with link := { t.link with lselHigh := true } })
        (h.link rfl) hs _ _

theorem lockedOutcome_hostFrame {s : State} (hm : s.mc.mode = .lockdown) (m : Nat) (f : Frame48) :
    LockedOutcome s (hostFrame m f s) := by
  have h := ((KeptLocked.refl hm).link (lselFall_eq s)).link (receiveRest_eq m f (lselFall s))
  refine lockedOutcome_lselRise h ?_
  rw [receiveRest_eq, lselFall_eq]

theorem KeptLocked.idleTimeout {s t : State} (h : KeptLocked s t) : KeptLocked s (idleTimeout t) := by
  unfold Machine.idleTimeout
  split
  · refine KeptLocked.rejectFrame ?_ _ _ _
    exact h.link rfl
  · exact h

theorem KeptLocked.endInterval {s t : State} (h : KeptLocked s t) : KeptLocked s (endInterval t) := by
  unfold Machine.endInterval
  dsimp only
  split <;> exact h.of_link rfl rfl rfl rfl rfl rfl rfl rfl

/-- A tick outside Running makes the readback comparison only (R93). -/
theorem tickHappening_of_not_running {s : State} (h : s.mc.mode ≠ .running) (lines : BitVec 24) (readback : Word) :
    tickHappening lines readback s =
      endHappening (compareReadback (sampleInputs lines readback (advanceCounter s))) := by
  have hr : (begin (sampleInputs lines readback (advanceCounter s))).startedRunning = false := by
    simpa [begin, sampleInputs, advanceCounter] using h
  unfold tickHappening tickSteps
  rw [if_neg (by simp [hr])]
  rfl

/-- The readback comparison changes the readback check, and the hold (R147 to R149). -/
theorem compareReadback_units (s : State) :
    (compareReadback s) = { s with link := (compareReadback s).link, act := (compareReadback s).act } := by
  unfold compareReadback
  dsimp only
  split
  · rfl
  · rw [markHold_eq]

theorem KeptLocked.scanTick {s t : State} (h : KeptLocked s t) (lines : BitVec 24) (readback : Word) :
    KeptLocked s (scanTick lines readback t) := by
  unfold Machine.scanTick
  split
  · exact h
  have ht : KeptLocked s (tickHappening lines readback t) := by
    rw [tickHappening_of_not_running (by rw [h.mode]; decide)]
    refine KeptLocked.endHappening ?_
    have hc := compareReadback_units (sampleInputs lines readback (advanceCounter t))
    have ha := compareReadback_act (sampleInputs lines readback (advanceCounter t))
    generalize compareReadback (sampleInputs lines readback (advanceCounter t)) = v at hc ha ⊢
    rw [hc]
    refine h.of_units rfl id rfl rfl rfl rfl rfl ?_ ⟨0, (List.drop_zero).symm⟩ rfl
    show v.act = _
    rw [ha]
    rfl
  have hi : KeptLocked s (countInterval (tickHappening lines readback t)) := by
    unfold countInterval
    split
    · exact ht
    split
    · exact ht.endInterval
    · exact ht.of_link rfl rfl rfl rfl rfl rfl rfl rfl
  unfold countIdle
  split
  · dsimp only
    split
    · exact KeptLocked.idleTimeout (hi.link rfl)
    · exact hi.link rfl
  · exact hi

/-- In Lockdown no deadline expires (R128, R132, R137). -/
theorem expiringTop_of_not_running {s : State} (h : s.mc.mode ≠ .running) : s.expiringTop = none := by
  unfold State.expiringTop
  split
  · rw [if_neg fun g => h g.1]
  · rfl

theorem lockedOutcome_exec {s t : State} {c : Instr} (hm : s.mc.mode = .lockdown) (hc : isHardReset c = false)
    (hx : exec c s = .next t) : LockedOutcome s t := by
  have h := KeptLocked.refl hm
  have hrun : s.mc.mode ≠ .running := by rw [hm]; decide
  cases hf : frameOf c with
  | some r =>
    obtain rfl := Host.Outcome.next.inj ((exec_of_frameOf hf s).symm.trans hx)
    exact lockedOutcome_hostFrame hm _ _
  | none =>
    have keep {u : State} (e : exec c s = .next u) (hu : LockedOutcome s u) : LockedOutcome s t := by
      obtain rfl := Host.Outcome.next.inj (e.symm.trans hx)
      exact hu
    cases c with
    | powerOnReset | pinReset => cases hc
    | hardResetRelease ida idb =>
      refine keep rfl (.inl ?_)
      split
      · exact h.of_units rfl id rfl rfl rfl rfl rfl rfl ⟨0, (List.drop_zero).symm⟩ rfl
      · exact h
    | resetIntervalEnd =>
      refine keep rfl (.inl ?_)
      split
      · exact h
      · exact h.endInterval
    | lselFall => exact keep rfl (.inl (h.link (lselFall_eq s)))
    | lselRise => exact keep rfl (lockedOutcome_lselRise h rfl)
    | nullFrame => exact keep rfl (lockedOutcome_hostFrame hm 0 0)
    | frameRejection m f => exact keep rfl (lockedOutcome_hostFrame hm m f)
    | idleTimeout => exact keep rfl (.inl h.idleTimeout)
    | lckRisingEdge ldi => exact keep rfl (.inl (h.link (lckRise_eq ldi s)))
    | lckFallingEdge => exact keep rfl (.inl (h.link (lckFall_eq s)))
    | scanTick lines readback => exact keep rfl (.inl (h.scanTick lines readback))
    | serviceDeadlineExpiry =>
      refine keep rfl (.inl ?_)
      rw [expiringTop_of_not_running hrun]
      exact h
    | nestedOverrun =>
      refine keep rfl (.inl ?_)
      rw [expiringTop_of_not_running hrun]
      exact h
    | claimDeadlineExpiry source =>
      refine keep rfl (.inl ?_)
      rw [if_neg fun g => hrun g.1]
      exact h
    | watchdogExpiry =>
      refine keep rfl (.inl ?_)
      rw [if_neg fun g => hrun g.1]
      exact h
    | _ => cases hf

/-- Settles O60: what each command makes of Lockdown, and the pins in step with it. -/
theorem lockdownKeepsEvidenceUntilAcknowledged : Obligations.LockdownKeepsEvidenceUntilAcknowledged := by
  unfold Obligations.LockdownKeepsEvidenceUntilAcknowledged
  intro s t c hm hr hc hx
  obtain ⟨heff, halert⟩ := pinsSet_exec hr.pinsSet hx
  rcases lockedOutcome_exec hm hc hx with h | h
  · have hmt := h.mode
    refine .inl ⟨hmt, h.evidence, h.unread, h.seen, ?_, ?_⟩
    · rw [halert, State.alertCondition, hmt]
    · rw [heff, ← h.evidence.levels.2.1]
      refine BitVec.eq_of_getLsbD_eq fun n hn => ?_
      rw [State.effectiveWord, getLsbD_wordOf _ ⟨n, hn⟩, State.effectiveLevel, if_pos (by rw [hmt]; decide)]
  · exact .inr h

end Sys2Proof.Machine
end

section
/-! PROOFS. The step, the hard resets and the link's own events: O1 to O3, O5, O55; the words of the receipt and of the
claim: O8, O34. -/

namespace Sys2Proof.Machine

-- one proof after another: each thread that elaborates costs the check a GiB of its memory limit
set_option Elab.async false

/-- Settles O1, by the definition of a step. -/
theorem stepRunsFrontCommand : Obligations.StepRunsFrontCommand := by
  unfold Obligations.StepRunsFrontCommand
  exact fun _ _ _ => rfl

/-! ## The hard resets -/

theorem reset_eq_hardReset : State.reset = hardReset true State.reset := rfl

/-- Settles O55, by what each hard reset leaves. -/
theorem resetStateIsLegal : Obligations.ResetStateIsLegal := by
  unfold Obligations.ResetStateIsLegal
  rw [reset_eq_hardReset]
  exact
    { atRest := (bounded_command.reset _ _).atRest (pinsSet_hardReset _ _)
      fields := fields_hardReset _ _
      link := linkLegal_hardReset _ _
      freezes := freezes_command.reset _ _
      armed := (eventsValid_hardReset _ _).armed.valid
      events := (eventsValid_hardReset _ _).events }

/-- The registers after a hard reset do not depend on the state before, but for MODE, which shows the reset cause
(R55). -/
theorem readReg_hardReset (powerOn : Bool) (s : State) {r : Reg} (hr : r ≠ .mode) :
    readReg (hardReset powerOn s) r = readReg State.reset r := by
  cases r with
  | mode => exact absurd rfl hr
  | _ => rfl

/-- The registers that read 0 after a hard reset (R55, R56, R58). -/
def zeroRegs : List Reg :=
  [.refusal, .armcheck, .linkfault, .linkcount, .zones, .silwin, .maskLo, .maskHi, .armedLo,
    .stack, .stack2, .claimrec 0, .claimrec 1, .claimrec 2, .claimrec 3, .pendLo, .pendHi, .comprec0,
    .comprec1, .lockrec, .locktick, .operate, .safe, .effective, .rbcheck, .active, .mismatchdet,
    .mismatchset, .frozen, .frozenlvl, .jwin 0, .jwin 1, .jwin 2, .jwin 3, .jstat, .timeLo]

theorem reset_zeroRegs : ∀ r ∈ zeroRegs, readReg State.reset r = 0 := by decide

theorem reset_otherRegs : readReg State.reset .policy = 0x0301 ∧ readReg State.reset .jfilter = 0x038E
    ∧ readReg State.reset .armedHi = 0x1200 := by decide

theorem reset_sets (k : SetId) (wordB : Bool) :
    readReg State.reset (.react k wordB) = 0 ∧ (State.reset.set k).binding = none := by
  revert k wordB
  decide

/-- The descriptors after a hard reset (R58). -/
theorem reset_descriptors (i : SourceId) :
    (isExternal i = true → readReg State.reset (.desc i 0) = 0)
    ∧ (readReg State.reset (.desc i 1) = 0 ∧ readReg State.reset (.desc i 2) = 0)
    ∧ readReg State.reset (.desc i 3) = if i = overrunId ∨ i = compoundId then 0x2008 else 0 := by
  revert i
  decide

theorem reset_internals :
    ([24, 25, 26, 27, 28, 29, 30, 31] : List SourceId).map (fun i => readReg State.reset (.desc i 0))
      = [0xF800, 0xF908, 0xFA00, 0xFB00, 0xFC18, 0xFD08, 0xFE00, 0xFF10] := by decide

/-- Settles O2: a hard reset's registers are those of the reset state, and those are read off. -/
theorem hardResetLeavesTableValues : Obligations.HardResetLeavesTableValues := by
  unfold Obligations.HardResetLeavesTableValues
  intro s c hc
  obtain ⟨powerOn, hx, hp⟩ : ∃ powerOn, exec c s = .next (hardReset powerOn s)
      ∧ (powerOn = true ↔ c = .powerOnReset ∨ s.rst.powerOnSeen = true) := by
    cases c with
    | powerOnReset => exact ⟨true, rfl, by simp⟩
    | pinReset => exact ⟨s.rst.powerOnSeen, rfl, by simp⟩
    | _ => cases hc
  have hread (r : Reg) (hr : r ≠ .mode) := readReg_hardReset powerOn s hr
  refine ⟨_, hx, rfl, rfl, rfl, rfl, rfl, rfl, rfl, rfl, rfl, rfl, rfl, ?_, rfl, rfl, rfl, rfl, rfl, rfl, rfl, rfl, rfl, rfl,
    fun i => ?_, fun r hr => ?_, ?_, ?_, ?_, fun k wordB => ?_, fun k => ?_, fun i hi => ?_, fun i => ?_, ?_,
    fun i => ?_⟩
  · show (if powerOn = true then ResetCause.powerOn else .pin) = _
    simp only [hp]
  · rw [src_hardReset]
    exact ⟨rfl, rfl, rfl⟩
  · rw [hread r]
    · exact reset_zeroRegs r hr
    · rintro rfl
      exact absurd hr (by decide)
  · rw [hread .policy nofun]; exact reset_otherRegs.1
  · rw [hread .jfilter nofun]; exact reset_otherRegs.2.1
  · rw [hread .armedHi nofun]; exact reset_otherRegs.2.2
  · rw [hread (.react k wordB) nofun]; exact (reset_sets k wordB).1
  · exact (reset_sets k true).2
  · rw [hread (.desc i 0) nofun]; exact (reset_descriptors i).1 hi
  · rw [hread (.desc i 1) nofun, hread (.desc i 2) nofun]; exact (reset_descriptors i).2.1
  · exact reset_internals
  · rw [hread (.desc i 3) nofun]; exact (reset_descriptors i).2.2

/-- The straps give the node ID in binary (R49). -/
theorem toNat_strapId (ida idb : BitVec 2) : (strapId ida idb).toNat = 4 * idb.toNat + ida.toNat := by
  revert ida idb
  decide

/-- Settles O3, by the definition of the release. -/
theorem releaseLatchesIdentityAndCause : Obligations.ReleaseLatchesIdentityAndCause := by
  unfold Obligations.ReleaseLatchesIdentityAndCause
  refine fun s ida idb => ⟨fun hh => ?held, fun hh => ?released⟩
  case held =>
    refine ⟨releaseReset (strapId ida idb) s, ?_, toNat_strapId ida idb, rfl, rfl⟩
    show Host.Outcome.next (if s.rst.held then releaseReset (strapId ida idb) s else s) = _
    rw [if_pos hh]
  case released =>
    show Host.Outcome.next (if s.rst.held then releaseReset (strapId ida idb) s else s) = _
    rw [if_neg (by simp [hh])]

/-! ## LSEL -/

theorem lselFall_ready {s : State} (h : s.link.phase = .ready) :
    lselFall s = closeFrame .shifting { s with link := { s.link with lselHigh := false } } := by
  unfold lselFall
  rw [if_pos h]

theorem lselFall_of_ne {s : State} (h : s.link.phase ≠ .ready) :
    lselFall s = { s with link := { s.link with lselHigh := false } } := by
  unfold lselFall
  rw [if_neg h]

/-- A rise of LSEL that ends no frame with an edge makes an open link Ready (R1, R4). -/
theorem lselRise_opens {s : State} (h : s.link.phase = .spent ∨ (s.link.phase = .shifting ∧ s.link.edges = 0)
    ∨ (s.link.phase = .barred ∧ s.rst.held = false ∧ s.rst.intervalLeft = 0)) :
    lselRise s = closeFrame .ready { s with link := { s.link with lselHigh := true } } := by
  unfold lselRise
  rcases h with h | ⟨h, he⟩ | ⟨h, hh, hl⟩
  · simp only [h]
  · simp only [h, he, if_true]
  · simp [h, hh, hl]

/-- A rise of LSEL that finds the link Ready, or Barred by a reset, moves the level only (R1, R54). -/
theorem lselRise_follows {s : State} (h : s.link.phase = .ready
    ∨ (s.link.phase = .barred ∧ (s.rst.held = true ∨ s.rst.intervalLeft ≠ 0))) :
    lselRise s = { s with link := { s.link with lselHigh := true } } := by
  unfold lselRise
  rcases h with h | ⟨h, hr⟩
  · simp only [h]
  · simp only [h]
    rw [if_pos (by simpa using hr)]

/-- Settles O5, by the cases of the two events. -/
theorem lselMovesTheLink : Obligations.LselMovesTheLink := by
  unfold Obligations.LselMovesTheLink
  exact fun s => ⟨fun h => congrArg Host.Outcome.next (lselFall_ready h),
    fun h => congrArg Host.Outcome.next (lselFall_of_ne h),
    fun h => congrArg Host.Outcome.next (lselRise_opens h),
    fun h => congrArg Host.Outcome.next (lselRise_follows h)⟩

/-! ## Words -/

/-- The fields of a word of vector, 0, class and source (R102). -/
theorem claimFields (vector : Byte) (kind : BitVec 2) (source : BitVec 5) :
    (vector ++ 0#1 ++ kind ++ source).extractLsb' 8 8 = vector
    ∧ (vector ++ 0#1 ++ kind ++ source).getLsbD 7 = false
    ∧ (vector ++ 0#1 ++ kind ++ source).extractLsb' 5 2 = kind
    ∧ (vector ++ 0#1 ++ kind ++ source).extractLsb' 0 5 = source := by
  refine ⟨?_, by simp only [BitVec.getLsbD_append]; rfl, ?_, ?_⟩ <;>
    (ext n hn; simp only [BitVec.getElem_extractLsb', BitVec.getLsbD_append]; grind)

/-- An armed source has a vector: an external one by its Arm validation, an internal one by its fixed fields (R31,
R71). -/
theorem vector_ne_zero {s : State} (hf : s.FieldsLegal) (ha : s.ArmedValid) {i : SourceId}
    (h : (s.src i).armed = true) : (s.src i).vector ≠ 0 := by
  intro h0
  cases he : isExternal i with
  | true =>
    have hv := ha i h
    unfold armFault at hv
    rw [if_pos (by simp [he, h0])] at hv
    cases hv
  | false =>
    have hk := hf.internal i he
    simp only [keepsFixed, Bool.and_eq_true, beq_iff_eq] at hk
    have hi : 24 ≤ i.val := by simpa [isExternal] using he
    have hv : (s.src i).vector = BitVec.ofNat 8 (0xF8 + (i.val - 24)) := hk.1.1
    rw [h0, ← BitVec.toNat_inj] at hv
    simp at hv
    omega

/-- Settles O34, by the layout of the word. -/
theorem claimWordLayout : Obligations.ClaimWordLayout := by
  unfold Obligations.ClaimWordLayout
  intro s i
  obtain ⟨hv, h7, hc, hs⟩ := claimFields (s.src i).vector (s.src i).classBits (sourceBits i)
  refine ⟨hv, h7, hc, congrArg BitVec.toNat hs, fun hf ha harm h0 => ?_⟩
  refine vector_ne_zero hf ha harm ?_
  rw [← hv]
  show (s.claimWord i).extractLsb' 8 8 = 0
  rw [h0]
  rfl

/-- The fields of a receipt: mode, ALERT, fault and tag; outcome, depth and journal; data; and the check over the first
four bytes (R19). -/
theorem receiptFields (m : BitVec 2) (a l : BitVec 1) (t o : BitVec 4) (n : BitVec 3) (u : BitVec 1) (d : Word)
    (c : Byte) :
    let body : BitVec 32 := (m ++ a ++ l ++ t) ++ (o ++ n ++ u) ++ d
    let w : Receipt40 := body ++ c
    (w.extractLsb' 38 2 = m ∧ w.getLsbD 37 = a.getLsbD 0 ∧ w.getLsbD 36 = l.getLsbD 0 ∧ w.extractLsb' 32 4 = t)
    ∧ (w.extractLsb' 28 4 = o ∧ w.extractLsb' 25 3 = n ∧ w.getLsbD 24 = u.getLsbD 0)
    ∧ (w.extractLsb' 8 16 = d ∧ w.extractLsb' 0 8 = c)
    ∧ bytes4 body = [w.extractLsb' 32 8, w.extractLsb' 24 8, w.extractLsb' 16 8, w.extractLsb' 8 8] := by
  intro body w
  have byte (k : Nat) : body.extractLsb' k 8 = w.extractLsb' (8 + k) 8 := by
    ext j hj
    simp only [w, BitVec.getElem_extractLsb', BitVec.getLsbD_append]
    grind
  have bits : bytes4 body = [w.extractLsb' 32 8, w.extractLsb' 24 8, w.extractLsb' 16 8, w.extractLsb' 8 8] := by
    rw [bytes4, byte 24, byte 16, byte 8, byte 0]
  refine ⟨⟨?_, ?_, ?_, ?_⟩, ⟨?_, ?_, ?_⟩, ⟨?_, ?_⟩, bits⟩ <;> simp only [w, body]
  case refine_2 | refine_3 | refine_7 => simp only [BitVec.getLsbD_append]; rfl
  all_goals
    ext j hj
    simp only [BitVec.getElem_extractLsb', BitVec.getLsbD_append]
    grind

/-- Some flag of the fault register is set (R15, R19). -/
theorem linkFault_ne_zero (f : BitVec 4) :
    (f != 0) = (f.getLsbD 0 || f.getLsbD 1 || f.getLsbD 2 || f.getLsbD 3) := by
  revert f
  decide

/-- Settles O8: the receipt is its fields. -/
theorem receiptLayout : Obligations.ReceiptLayout := by
  unfold Obligations.ReceiptLayout
  intro s hr
  obtain ⟨⟨hm, ha, hl, ht⟩, ⟨ho, hn, hu⟩, ⟨hd, hc⟩, hb⟩ := receiptFields (modeCode s.mc.mode) (BitVec.ofBool s.arb.alert)
    (BitVec.ofBool (s.link.linkFault != 0)) s.link.prev.tag (outcomeCode s.link.prev.outcome)
    (BitVec.ofNat 3 s.svc.stack.length) (BitVec.ofBool (!s.jn.unread.isEmpty)) s.link.prev.data
    (crc8 (bytes4 (s.p0 ++ s.p1 ++ s.link.prev.data)))
  refine ⟨hm.trans ?_, ha.trans ?_, hl.trans ?_, ht, ho, (congrArg BitVec.toNat hn).trans ?_, ?_, hd, hc.trans ?_⟩
  · cases s.mc.mode <;> rfl
  · rw [hr.alert]
    simp
  · rw [← linkFault_ne_zero]
    simp
  · have := hr.depth
    simp only [BitVec.toNat_ofNat, Config.stackLimit] at *
    omega
  · rw [show s.receiptWord.getLsbD 24 = _ from hu]
    simp
  · exact congrArg crc8 hb

end Sys2Proof.Machine
end

section
/-! PROOFS. The frame on the wires, clock by clock: what a frame command does at once (O15, O16), what the host reads of
the receipt (O6, O7), and the frames that leave no trace (O9, O14). -/

namespace Sys2Proof.Machine

-- one proof after another: each thread that elaborates costs the check a GiB of its memory limit
set_option Elab.async false

/-! ## Sequences of clock periods -/

/-- The state after clock periods with these bits. -/
def clockAll (bs : List Bool) (s : State) : State := bs.foldl (fun x b => lckFall (lckRise b x)) s

theorem execAll_clock (bs : List Bool) (cs : List Instr) (s : State) :
    execAll (bs.flatMap clockBit ++ cs) s = execAll cs (clockAll bs s) := by
  induction bs generalizing s with
  | nil => rfl
  | cons b rest ih => exact ih (lckFall (lckRise b s))

theorem execAll_wire (bs : List Bool) (cs : List Instr) (s : State) :
    execAll ([.lselFall] ++ bs.flatMap clockBit ++ cs) s = execAll cs (clockAll bs (lselFall s)) :=
  execAll_clock bs cs (lselFall s)

theorem length_frameBits (f : Frame48) (n : Nat) : (frameBits f n).length = n := by
  induction n with
  | zero => rfl
  | succ n ih => simp [frameBits, ih]

theorem getElem_frameBits (f : Frame48) (n i : Nat) (h : i < (frameBits f n).length) :
    (frameBits f n)[i] = f.getLsbD (n - 1 - i) := by
  induction n generalizing i with
  | zero => simp [frameBits] at h
  | succ n ih =>
    cases i with
    | zero => rfl
    | succ i =>
      have hi : i < (frameBits f n).length := by simpa [frameBits] using h
      have hn := length_frameBits f n
      rw [show (frameBits f (n + 1))[i + 1] = (frameBits f n)[i] from rfl, ih i hi]
      congr 1
      omega

/-- The bits of a frame come one after another, the highest first (R2). -/
theorem take_succ_frameBits (f : Frame48) {n : Nat} (h : n < 48) :
    (frameBits f 48).take (n + 1) = (frameBits f 48).take n ++ [f.getLsbD (47 - n)] := by
  rw [List.take_add_one, List.getElem?_eq_getElem (by rw [length_frameBits]; exact h), getElem_frameBits]
  rfl

theorem clockAll_append (as bs : List Bool) (s : State) : clockAll (as ++ bs) s = clockAll bs (clockAll as s) :=
  List.foldl_append

/-! ## Clock edges -/

/-- The shift register with one more bit (R2). -/
theorem shift_concat (x : Frame48) (b : Bool) :
    (x <<< 1) ||| (BitVec.ofBool b).zeroExtend 48 = (x.extractLsb' 0 47) ++ BitVec.ofBool b := by
  refine BitVec.eq_of_getLsbD_eq fun j hj => ?_
  have happ : ((x.extractLsb' 0 47) ++ BitVec.ofBool b).getLsbD j =
      if j < 1 then (BitVec.ofBool b).getLsbD j else (x.extractLsb' 0 47).getLsbD (j - 1) :=
    BitVec.getLsbD_append
  rw [show BitVec.getLsbD (x.extractLsb' 0 47 ++ BitVec.ofBool b : BitVec 48) j = _ from happ]
  cases j with
  | zero => simp
  | succ j =>
    have h47 : j < 47 := by omega
    simp [h47, hj, BitVec.getLsbD_eq_getElem (show j < 48 by omega)]

/-- The bits of a frame that have come, with the next one (R2). -/
theorem shift_next (f : Frame48) {n : Nat} (h : n < 48) :
    ((f >>> (48 - n)) <<< 1) ||| (BitVec.ofBool (f.getLsbD (47 - n))).zeroExtend 48 = f >>> (48 - (n + 1)) := by
  refine BitVec.eq_of_getLsbD_eq fun j hj => ?_
  cases j with
  | zero => simp
  | succ j =>
    have hpos : 47 - n + (j + 1) = 48 - n + j := by omega
    simp [hpos, hj]

theorem lckRise_of_ne {s : State} (h : s.link.phase ≠ .shifting) (b : Bool) : lckRise b s = s := by
  unfold lckRise
  rw [if_neg h]

theorem lckFall_of_ne {s : State} (h : s.link.phase ≠ .shifting) : lckFall s = s := by
  unfold lckFall
  rw [if_neg fun g => h g.1]

/-- A rising edge counts, takes its bit and clears the idle count (R2). -/
def clockIn (b : Bool) (s : State) : State :=
  { s with link := { s.link with
      edges := min 49 (s.link.edges + 1)
      shift := if s.link.edges < 48 then (s.link.shift.extractLsb' 0 47) ++ BitVec.ofBool b else s.link.shift
      idle := 0 } }

theorem lckRise_shifting {s : State} (h : s.link.phase = .shifting) (b : Bool) :
    lckRise b s =
      if s.link.edges = 7 then decideDrive ((clockIn b s).link.shift.extractLsb' 0 8) (clockIn b s)
      else clockIn b s := by
  unfold lckRise clockIn
  rw [if_pos h, shift_concat]
  rfl

theorem lckFall_idle {s : State} (h : s.link.driving = false) : lckFall s = s := by
  unfold lckFall
  rw [if_neg fun g => by rw [h] at g; cases g.2]

/-- A falling edge presents the next receipt bit, or releases LDO after the last (R18). -/
theorem lckFall_driving {s : State} (h : s.link.phase = .shifting) (hd : s.link.driving = true) :
    lckFall s = { s with link := { s.link with
      ldo := if s.link.edges < 48 then some (s.link.receipt.getLsbD (47 - s.link.edges)) else none
      driving := decide (s.link.edges < 48) } } := by
  unfold lckFall
  rw [if_pos ⟨h, hd⟩]
  split
  · next he =>
    have he : s.link.edges < 48 := he
    simp [he, Config.frameEdges, hd]
  · next he =>
    have he : ¬s.link.edges < 48 := he
    simp [he]

/-- The fields of the first byte are those of the bits that hold it (R6). -/
theorem first_byte (x : Frame48) : (x.extractLsb' 0 8).extractLsb' 6 2 = x.extractLsb' 6 2
    ∧ (x.extractLsb' 0 8).extractLsb' 0 4 = x.extractLsb' 0 4 := by
  constructor
  · ext j hj
    simp [BitVec.getElem_extractLsb']
  · ext j hj
    simp [BitVec.getElem_extractLsb']

/-- Settles O6, by the cases of the two edges. -/
theorem clockEdgesShiftAndPresent : Obligations.ClockEdgesShiftAndPresent := by
  unfold Obligations.ClockEdgesShiftAndPresent
  refine fun s ldi => ⟨fun h => ?_, fun h he => ?_, fun h he => ?_, fun _ hd => ?_, fun h hd => ?_⟩
  · exact ⟨congrArg Host.Outcome.next (lckRise_of_ne h ldi), congrArg Host.Outcome.next (lckFall_of_ne h)⟩
  · exact congrArg Host.Outcome.next ((lckRise_shifting h ldi).trans (if_neg he))
  · refine ⟨_, congrArg Host.Outcome.next ((lckRise_shifting h ldi).trans (if_pos he)), ?_, ?_, rfl, ?_, ?_, ?_⟩
    · simp [decideDrive, clockIn, he]
    · simp [decideDrive, clockIn, he]
    · obtain ⟨hreach, hnode⟩ := first_byte (clockIn ldi s).link.shift
      show s.drives ((clockIn ldi s).link.shift.extractLsb' 0 8) = true ↔ _
      simp only [State.drives, hreach, hnode, Bool.and_eq_true, beq_iff_eq, bne_iff_ne, and_assoc]
      rfl
    · rfl
    · simp [decideDrive, clockIn, he]
  · exact congrArg Host.Outcome.next (lckFall_idle hd)
  · exact congrArg Host.Outcome.next (lckFall_driving h hd)

/-! ## A frame, clock by clock -/

/-- An idle node in the course of a frame: `n` clocks have come, with the first bits of `f` (R2, R17, R18). -/
def clocked (f : Frame48) (n : Nat) (s : State) : State :=
  { s with link := { s.link with
      lselHigh := false, phase := .shifting, edges := n, shift := f >>> (48 - n), idle := 0
      driving := decide (8 ≤ n ∧ n < 48) && s.drives (f.extractLsb' 40 8)
      ldo := if 8 ≤ n ∧ n < 48 ∧ s.drives (f.extractLsb' 40 8) = true then some (s.receiptWord.getLsbD (47 - n)) else none
      receipt := if 8 ≤ n ∧ s.drives (f.extractLsb' 40 8) = true then s.receiptWord else s.link.receipt } }

theorem clocked_zero {s : State} (h : s.linkIdle) (f : Frame48) : lselFall s = clocked f 0 s := by
  obtain ⟨hp, -⟩ := h
  have hz : f >>> 48 = 0#48 := BitVec.eq_of_toNat_eq (by
    have := f.isLt
    simp only [BitVec.toNat_ushiftRight, Nat.shiftRight_eq_div_pow, BitVec.toNat_ofNat]
    omega)
  rw [lselFall_ready hp]
  simp [closeFrame, clocked, hz]

/-- The first byte stands in the low bits when eight have come. -/
theorem first_eight (f : Frame48) : (f >>> (48 - (7 + 1))).extractLsb' 0 8 = f.extractLsb' 40 8 := by
  ext j hj
  simp [BitVec.getElem_extractLsb', show j < 48 by omega]

/-- The node between the rising and the falling edge of clock `n + 1`, but for what the eighth decides. -/
def arrived (f : Frame48) (n : Nat) (s : State) : State :=
  { clocked f n s with link := { (clocked f n s).link with edges := n + 1, shift := f >>> (48 - (n + 1)), idle := 0 } }

theorem clockIn_clocked (f : Frame48) {n : Nat} (h : n < 48) (s : State) :
    clockIn (f.getLsbD (47 - n)) (clocked f n s) = arrived f n s := by
  have hs := shift_next f h
  rw [shift_concat] at hs
  unfold clockIn
  rw [show (clocked f n s).link.edges = n from rfl, if_pos h, show min 49 (n + 1) = n + 1 by omega,
    show (clocked f n s).link.shift = f >>> (48 - n) from rfl, hs]
  rfl

theorem decideDrive_drives {s : State} {q : Byte} (h : s.drives q = true) :
    decideDrive q s = { s with link := { s.link with driving := true, receipt := s.receiptWord } } := by
  rw [decideDrive, h]
  rfl

theorem decideDrive_listens {s : State} {q : Byte} (h : s.drives q = false) :
    decideDrive q s = { s with link := { s.link with driving := false } } := by
  rw [decideDrive, h]
  rfl

/-- The eighth clock: the node decides whether it drives (R17). -/
theorem clocked_eight (f : Frame48) (s : State) :
    lckFall (decideDrive (f.extractLsb' 40 8) (clockIn (f.getLsbD 40) (clocked f 7 s))) = clocked f 8 s := by
  rw [show f.getLsbD 40 = f.getLsbD (47 - 7) from rfl, clockIn_clocked f (by decide)]
  cases hd : s.drives (f.extractLsb' 40 8) with
  | false =>
    rw [decideDrive_listens (show (arrived f 7 s).drives _ = false from hd), lckFall_idle rfl]
    simp [arrived, clocked, hd]
  | true =>
    rw [decideDrive_drives (show (arrived f 7 s).drives _ = true from hd), lckFall_driving rfl rfl]
    simp only [arrived, clocked, hd]
    rfl

theorem clocked_succ (f : Frame48) {n : Nat} (h : n < 48) (s : State) :
    lckFall (lckRise (f.getLsbD (47 - n)) (clocked f n s)) = clocked f (n + 1) s := by
  rw [lckRise_shifting rfl, show (clocked f n s).link.edges = n from rfl]
  by_cases h7 : n = 7
  · subst h7
    rw [if_pos rfl]
    have hq : (clockIn (f.getLsbD (47 - 7)) (clocked f 7 s)).link.shift.extractLsb' 0 8 = f.extractLsb' 40 8 := by
      rw [clockIn_clocked f h]
      exact first_eight f
    rw [hq]
    exact clocked_eight f s
  rw [if_neg h7, clockIn_clocked f h]
  have h8 : 8 ≤ n + 1 ↔ 8 ≤ n := by omega
  by_cases hd : 8 ≤ n ∧ s.drives (f.extractLsb' 40 8) = true
  · have hdrive : (arrived f n s).link.driving = true := by simp [arrived, clocked, hd, h]
    rw [lckFall_driving rfl hdrive]
    by_cases h47 : n + 1 < 48
    · simp [arrived, clocked, hd, h47, h8]
    · simp [arrived, clocked, hd, h47, h8]
  · rcases not_and_or.mp hd with hn | hn
    · rw [lckFall_idle (by simp [arrived, clocked, hn])]
      simp [arrived, clocked, hn, h8]
    · rw [lckFall_idle (by simp [arrived, clocked, hn])]
      simp [arrived, clocked, hn]

/-- An idle node after the first clocks of a frame. -/
theorem clockAll_take {s : State} (h : s.linkIdle) (f : Frame48) {n : Nat} (hn : n ≤ 48) :
    clockAll ((frameBits f 48).take n) (lselFall s) = clocked f n s := by
  induction n with
  | zero => exact clocked_zero h f
  | succ n ih =>
    rw [take_succ_frameBits f hn, clockAll_append, ih (Nat.le_of_succ_le hn)]
    exact clocked_succ f hn s

/-- Settles O7, from what LDO shows after each clock. -/
theorem hostReadsTheReceipt : Obligations.HostReadsTheReceipt := by
  unfold Obligations.HostReadsTheReceipt
  intro s f n hi
  have run {m : Nat} (hm : m ≤ 48) :
      execAll ([.lselFall] ++ ((frameBits f 48).take m).flatMap clockBit) s = .next (clocked f m s) := by
    have h := execAll_wire ((frameBits f 48).take m) [] s
    rw [List.append_nil, clockAll_take hi f hm] at h
    exact h
  refine ⟨fun hd hn => ⟨_, run (by omega), ?_⟩, fun hn => ⟨_, run (by omega), ?_⟩, fun hd hn => ⟨_, run hn, ?_⟩⟩
  · have hpos : 47 - (8 + n) = 39 - n := by omega
    simp [clocked, hd, show 8 + n < 48 by omega, hpos]
  · simp [clocked, show ¬8 ≤ n by omega]
  · simp [clocked, hd]

/-- The rise of LSEL after 48 clocks completes the frame (R3, R9). -/
theorem lselRise_clocked {s : State} (h : s.linkIdle) (f : Frame48) :
    lselRise (clocked f 48 s) = hostFrame 48 f s := by
  rw [lselRise_shifting rfl (by decide : (48 : Nat) ≠ 0), hostFrame_idle h (by decide)]
  have hl := link_of_idle h
  have hend : closeFrame .ready { clocked f 48 s with link := { (clocked f 48 s).link with lselHigh := true } }
      = s.sampled 48 f := by
    cases hd : s.drives (f.extractLsb' 40 8) with
    | false =>
      simp only [closeFrame, clocked, State.sampled, hd, Bool.false_eq_true, and_false, if_false]
      rw [← hl]
    | true =>
      simp only [closeFrame, clocked, State.sampled, hd, show 8 ≤ 48 by decide, and_self, if_true]
      exact congrArg (fun l : LinkUnit => { s with link := { l with receipt := s.receiptWord } }) hl.symm
  rw [hend]
  rfl

/-- Settles O15, by the frame clock by clock. -/
theorem frameCommandsAreTheirWireEvents : Obligations.FrameCommandsAreTheirWireEvents := by
  unfold Obligations.FrameCommandsAreTheirWireEvents
  have wire (s : State) (f : Frame48) (hi : s.linkIdle) :
      execAll (wireFrame f) s = .next (hostFrame 48 f s) := by
    have hall : (frameBits f 48).take 48 = frameBits f 48 := List.take_of_length_le (length_frameBits f 48).le
    have h := execAll_wire (frameBits f 48) [.lselRise] s
    rw [← hall, clockAll_take hi f (Nat.le_refl _), hall] at h
    refine h.trans ?_
    exact congrArg Host.Outcome.next (lselRise_clocked hi f)
  exact ⟨fun s f hi => wire s f hi, fun s c r hi hf => (wire s r.frame hi).trans (exec_of_frameOf hf s).symm⟩

/-! ## Frames that leave no trace -/

/-- A frame that ends without an edge leaves an idle link as it was (R4). -/
theorem lselRise_clocked_zero {s : State} (h : s.linkIdle) (f : Frame48) : lselRise (clocked f 0 s) = s := by
  rw [lselRise_opens (.inr (.inl ⟨rfl, rfl⟩))]
  have hl := link_of_idle h
  simp only [closeFrame, clocked, show ¬8 ≤ 0 by decide, false_and, if_false]
  rw [← hl]

theorem hostFrame_none {s : State} (h : s.linkIdle) : hostFrame 0 0 s = s := by
  have hr : receiveRest 0 0 (clocked 0 0 s) = clocked 0 0 s := by
    rw [receiveRest_new rfl rfl rfl]
    rfl
  rw [hostFrame, clocked_zero h 0, hr, lselRise_clocked_zero h]

/-- The end of a happening changes of the link the hold only (R92). -/
theorem link_finish (w : Work) : (finish w).link = { w.st.link with hold := (finish w).link.hold } :=
  (frame_drain w).link

/-- What a rejection leaves of the link: its record, and the hold as the LINK occurrence leaves it (R14). -/
theorem link_rejectFrame (cause : FrameOutcome) (tag : BitVec 4) (index : Byte) (s : State) :
    (rejectFrame cause tag index s).link = { (recordRejection cause tag index s).link with
      hold := (rejectFrame cause tag index s).link.hold } := by
  have ho := (frame_occur linkId ((outcomeCode cause).zeroExtend 16)
    ((begin s).map (recordRejection cause tag index))).link
  refine (link_finish _).trans ?_
  rw [ho]
  rfl

/-- Settles O9: a frame without an edge is the closed link, and its timeout a rejection. -/
theorem nullFrameChangesNothing : Obligations.NullFrameChangesNothing := by
  unfold Obligations.NullFrameChangesNothing
  intro s hi
  refine ⟨congrArg Host.Outcome.next (hostFrame_none hi), ?_, ?_⟩
  · show Host.Outcome.next (lselRise (lselFall s)) = _
    rw [clocked_zero hi 0, lselRise_clocked_zero hi]
  · refine ⟨idleTimeout (lselFall s), rfl, ?_⟩
    rw [clocked_zero hi 0, idleTimeout, if_pos (show (clocked 0 0 s).link.phase = .shifting from rfl), link_rejectFrame]
    exact ⟨rfl, rfl⟩

/-- Clock edges outside a frame change nothing (R1). -/
theorem clockAll_of_ne {s : State} (h : s.link.phase ≠ .shifting) (bs : List Bool) : clockAll bs s = s := by
  induction bs with
  | nil => rfl
  | cons b rest ih =>
    show clockAll rest (lckFall (lckRise b s)) = s
    rw [lckRise_of_ne h, lckFall_of_ne h, ih]

theorem receiveRest_of_ne {s : State} (h : s.link.phase ≠ .shifting) (m : Nat) (f : Frame48) :
    receiveRest m f s = s := by
  unfold receiveRest
  rw [if_neg h]

/-- Settles O14: no edge of a barred link counts. -/
theorem barredLinkIgnoresFrames : Obligations.BarredLinkIgnoresFrames := by
  unfold Obligations.BarredLinkIgnoresFrames
  intro s c r hp hr hf
  have hfall : lselFall s = { s with link := { s.link with lselHigh := false } } :=
    lselFall_of_ne (by rw [hp]; decide)
  have hne : (lselFall s).link.phase ≠ .shifting := by
    rw [hfall]
    show s.link.phase ≠ _
    rw [hp]
    decide
  have hrise : lselRise (lselFall s) = { s with link := { s.link with lselHigh := true } } := by
    rw [hfall]
    exact lselRise_follows (.inr ⟨hp, hr⟩)
  constructor
  · rw [exec_of_frameOf hf, hostFrame, receiveRest_of_ne hne, hrise]
  · rw [wireFrame, execAll_wire, clockAll_of_ne hne]
    exact congrArg Host.Outcome.next hrise

/-! ## The fields of a frame command -/

/-- The shape of every command's frame. -/
theorem frameShape (c : Instr) : Laws.FrameShape.Statement c := by
  cases c with
  | powerOnReset => exact Laws.FrameShape.powerOnReset
  | pinReset => exact Laws.FrameShape.pinReset
  | hardResetRelease ida idb => exact Laws.FrameShape.hardResetRelease ida idb
  | resetIntervalEnd => exact Laws.FrameShape.resetIntervalEnd
  | lselFall => exact Laws.FrameShape.lselFall
  | nullFrame => exact Laws.FrameShape.nullFrame
  | idleTimeout => exact Laws.FrameShape.idleTimeout
  | frameRejection edges raw => exact Laws.FrameShape.frameRejection edges raw
  | probe node tag => exact Laws.FrameShape.probe node tag
  | hold node index data tag => exact Laws.FrameShape.hold node index data tag
  | registerWrite dest index data tag => exact Laws.FrameShape.registerWrite dest index data tag
  | linkfaultWrite dest data tag => exact Laws.FrameShape.linkfaultWrite dest data tag
  | linkcountWrite dest data tag => exact Laws.FrameShape.linkcountWrite dest data tag
  | mismatchdetWrite dest data tag => exact Laws.FrameShape.mismatchdetWrite dest data tag
  | descriptorWrite dest source word data tag => exact Laws.FrameShape.descriptorWrite dest source word data tag
  | reactionSetWrite dest set wordB data tag => exact Laws.FrameShape.reactionSetWrite dest set wordB data tag
  | timeHiRead node data tag => exact Laws.FrameShape.timeHiRead node data tag
  | lockrecRead node data tag => exact Laws.FrameShape.lockrecRead node data tag
  | claim node data tag => exact Laws.FrameShape.claim node data tag
  | complete dest data tag => exact Laws.FrameShape.complete dest data tag
  | raise dest data tag => exact Laws.FrameShape.raise dest data tag
  | arm dest data tag => exact Laws.FrameShape.arm dest data tag
  | disarm dest data tag => exact Laws.FrameShape.disarm dest data tag
  | release dest data tag => exact Laws.FrameShape.release dest data tag
  | start dest tag => exact Laws.FrameShape.start dest tag
  | stop dest tag => exact Laws.FrameShape.stop dest tag
  | recover dest tag => exact Laws.FrameShape.recover dest tag
  | sealNode dest tag => exact Laws.FrameShape.sealNode dest tag
  | forceLockdown dest tag => exact Laws.FrameShape.forceLockdown dest tag
  | reinit dest tag => exact Laws.FrameShape.reinit dest tag
  | journalTake dest tag => exact Laws.FrameShape.journalTake dest tag
  | journalClear dest tag => exact Laws.FrameShape.journalClear dest tag
  | scanTick lines readback => exact Laws.FrameShape.scanTick lines readback
  | serviceDeadlineExpiry => exact Laws.FrameShape.serviceDeadlineExpiry
  | nestedOverrun => exact Laws.FrameShape.nestedOverrun
  | claimDeadlineExpiry source => exact Laws.FrameShape.claimDeadlineExpiry source
  | watchdogExpiry => exact Laws.FrameShape.watchdogExpiry
  | lckRisingEdge ldi => exact Laws.FrameShape.lckRisingEdge ldi
  | lckFallingEdge => exact Laws.FrameShape.lckFallingEdge
  | lselRise => exact Laws.FrameShape.lselRise
  | frameDropped dest op index data tag => exact Laws.FrameShape.frameDropped dest op index data tag

/-- Settles O16: every command's frame is a request, which comes back from its bits. -/
theorem framesCarryTheirFields : Obligations.FramesCarryTheirFields := by
  unfold Obligations.FramesCarryTheirFields
  intro c r hf
  obtain ⟨dest, op, index, data, tag, rfl, hw⟩ := frameShape c r hf
  refine ⟨parseFrame_frame _, crcOk_request dest op index data tag, fun hc => ?_⟩
  obtain ⟨hd, ho, hp⟩ := hw hc
  exact formFault_request tag hd ho hp

end Sys2Proof.Machine
end

section
/-! PROOFS. What a tick leaves alone; the idle timeout (O10); rejections (O11) and the frames
that do not address the node (O13). -/

namespace Sys2Proof.Machine

-- one proof after another: each thread that elaborates costs the check a GiB of its memory limit
set_option Elab.async false

/-! ## What the steps of a tick leave alone -/

/-- What no step of a tick changes: the queue, the resets, the registers that keep a written word, the link but for the
hold, the descriptor and reaction-set words. -/
structure TickFrame (s t : State) : Prop where
  pending : t.pending = s.pending
  rst     : t.rst = s.rst
  regs    : t.regs = s.regs
  link    : t.link = { s.link with hold := t.link.hold }
  levels  : t.act.operate = s.act.operate ∧ t.act.safe = s.act.safe ∧ t.act.rbcheck = s.act.rbcheck
  filter  : t.jn.filter = s.jn.filter
  words   : ∀ i : SourceId, (t.src i).w0 = (s.src i).w0 ∧ (t.src i).w1 = (s.src i).w1 ∧ (t.src i).w2 = (s.src i).w2
  sets    : ∀ k : SetId, (t.set k).wordA = (s.set k).wordA ∧ (t.set k).wordB = (s.set k).wordB

theorem TickFrame.of_frame {s t : State} (h : EngineFrame s t) : TickFrame s t :=
  ⟨h.pending, h.rst, h.regs, h.link, by rw [h.act]; exact ⟨rfl, rfl, rfl⟩, by rw [h.jn], h.words, h.sets⟩

theorem TickFrame.refl (s : State) : TickFrame s s := .of_frame (.refl s)

theorem TickFrame.trans {s t u : State} (h : TickFrame s t) (g : TickFrame t u) : TickFrame s u where
  pending := g.pending.trans h.pending
  rst := g.rst.trans h.rst
  regs := g.regs.trans h.regs
  link := by rw [g.link, h.link]
  levels := ⟨g.levels.1.trans h.levels.1, g.levels.2.1.trans h.levels.2.1, g.levels.2.2.trans h.levels.2.2⟩
  filter := g.filter.trans h.filter
  words := fun i =>
    ⟨(g.words i).1.trans (h.words i).1, (g.words i).2.1.trans (h.words i).2.1, (g.words i).2.2.trans (h.words i).2.2⟩
  sets := fun k => ⟨(g.sets k).1.trans (h.sets k).1, (g.sets k).2.trans (h.sets k).2⟩

/-- An update of the units that a tick may change. -/
theorem TickFrame.of_units {s t : State} (pending : t.pending = s.pending) (rst : t.rst = s.rst)
    (regs : t.regs = s.regs) (link : t.link = s.link)
    (levels : t.act.operate = s.act.operate ∧ t.act.safe = s.act.safe ∧ t.act.rbcheck = s.act.rbcheck)
    (filter : t.jn.filter = s.jn.filter) (table : t.srcs.table = s.srcs.table) (sets : t.act.sets = s.act.sets) :
    TickFrame s t := by
  refine ⟨pending, rst, regs, by rw [link], levels, filter, fun i => ?_, fun k => ?_⟩
  · rw [State.src, table]
    exact ⟨rfl, rfl, rfl⟩
  · rw [State.set, sets]
    exact ⟨rfl, rfl⟩

theorem tickFrame_markHold {s t : State} (h : TickFrame s t) (n : Byte) : TickFrame s (markHold n t) :=
  h.trans (.of_frame (frame_markHold n t))

theorem tickFrame_compareReadback (s : State) : TickFrame s (compareReadback s) := by
  unfold compareReadback
  dsimp only
  split
  · exact .of_units rfl rfl rfl rfl ⟨rfl, rfl, rfl⟩ rfl rfl rfl
  · refine tickFrame_markHold ?_ _
    exact .of_units rfl rfl rfl rfl ⟨rfl, rfl, rfl⟩ rfl rfl rfl

theorem tickFrame_tick (s : State) : TickKeeps (TickFrame s) where
  engine := .of_frame fun _ _ g h => h.trans (.of_frame g)
  compare := fun t h => h.trans (tickFrame_compareReadback t)
  top := fun _ _ h => h.trans (.of_units rfl rfl rfl rfl ⟨rfl, rfl, rfl⟩ rfl rfl rfl)
  overrun := fun _ _ h => h.trans (.of_frame (frame_setSrc rfl rfl rfl))
  entry := fun _ _ _ h => h.trans (.of_units rfl rfl rfl rfl ⟨rfl, rfl, rfl⟩ rfl rfl rfl)
  expired := fun _ _ h => h.trans (.of_frame (frame_setSrc rfl rfl rfl))
  watchdog := fun _ _ h => h.trans (.of_units rfl rfl rfl rfl ⟨rfl, rfl, rfl⟩ rfl rfl rfl)

theorem TickFrame.endHappening {s t : State} (h : TickFrame s t) : TickFrame s (endHappening t) :=
  h.trans (.of_units rfl rfl rfl rfl ⟨rfl, rfl, rfl⟩ rfl rfl rfl)

theorem TickFrame.finish {s : State} {w : Work} (h : TickFrame s w.st) : TickFrame s (finish w) :=
  TickFrame.endHappening ((tickFrame_tick s).engine.drain h)

theorem tickFrame_tickHappening (s : State) (lines : BitVec 24) (readback : Word) :
    TickFrame s (tickHappening lines readback s) :=
  (tickFrame_tick s).tickHappening (.of_units rfl rfl rfl rfl ⟨rfl, rfl, rfl⟩ rfl rfl rfl) fun _ h => h.endHappening

/-! ## Rejections that cause no occurrence -/

/-- LINK has no occurrence at a rejection (R14, R80). -/
theorem occur_linkQuiet {s : State} (h : s.linkQuiet) {f : State → State} (hm : (f s).mc = s.mc)
    (hs : (f s).src linkId = s.src linkId) (detail : Word) :
    occur linkId detail ((begin s).map f) = (begin s).map f := by
  rcases h with h | h
  · refine occur_disarmed ?_ detail
    show ((f s).src linkId).state = _
    rw [hs]
    simpa [Source.armed] using h
  · refine occur_of_not_live ?_ linkId detail
    show ((f s).mc.mode == .running) = false
    rw [hm]
    simpa using h

/-- A rejection that causes no LINK occurrence only records (R14, R15). -/
theorem rejectFrame_quiet {s : State} (h : s.linkQuiet) (cause : FrameOutcome) {flag : BitVec 4} (tag : BitVec 4)
    (index : Byte) (hf : flag = 1#4 <<< faultFlag cause) :
    rejectFrame cause tag index s = s.rejectedAs cause flag tag index := by
  subst hf
  have hc := satInc_byte s.link.linkCount
  rw [rejectFrame, occur_linkQuiet h rfl rfl, finish_begin_map, recordRejection, State.rejectedAs, hc]
  rfl

theorem linkQuiet_sampled {s : State} (h : s.linkQuiet) (m : Nat) (f : Frame48) : (s.sampled m f).linkQuiet := by
  unfold State.sampled
  split
  · exact h
  · exact h

/-! ## The idle timeout -/

theorem idleTimeout_shifting {s : State} (h : s.link.phase = .shifting) :
    idleTimeout s = rejectFrame .rejectedLength 0 0 (closeFrame .spent s) := by
  unfold idleTimeout
  rw [if_pos h]

theorem idleTimeout_of_ne {s : State} (h : s.link.phase ≠ .shifting) : idleTimeout s = s := by
  unfold idleTimeout
  rw [if_neg h]

/-- A tick after the reset interval is its happening and the idle count (R5, R93). -/
theorem scanTick_eq {s : State} (hh : s.rst.held = false) (hl : s.rst.intervalLeft = 0) (lines : BitVec 24)
    (readback : Word) : scanTick lines readback s = countIdle (tickHappening lines readback s) := by
  have hr := (tickFrame_tickHappening s lines readback).rst
  rw [scanTick, if_neg (by simp [hh]), countInterval, if_pos (by rw [hr]; exact hl)]

/-- Settles O10: the happening of a tick leaves the frame in progress, and the count then ends it or does not. -/
theorem idleTimeoutEndsTheFrame : Obligations.IdleTimeoutEndsTheFrame := by
  unfold Obligations.IdleTimeoutEndsTheFrame
  refine ⟨fun s hp hq => ?_, fun s hp => congrArg Host.Outcome.next (idleTimeout_of_ne hp),
    fun s lines readback hp hh hl => ?_⟩
  · refine congrArg Host.Outcome.next ((idleTimeout_shifting hp).trans ?_)
    exact rejectFrame_quiet (s := closeFrame .spent s) hq .rejectedLength 0 0 rfl
  · have ht := tickFrame_tickHappening s lines readback
    have hx : exec (.scanTick lines readback) s = .next (countIdle (tickHappening lines readback s)) :=
      congrArg Host.Outcome.next (scanTick_eq hh hl lines readback)
    generalize tickHappening lines readback s = u at ht hx
    have hphase : u.link.phase = .shifting := by rw [ht.link]; exact hp
    have hidle : u.link.idle = s.link.idle := by rw [ht.link]
    rw [countIdle, if_pos hphase] at hx
    refine ⟨fun hi => ⟨_, hx, ?_⟩, fun hi => ⟨_, hx, ?_⟩⟩
    · rw [if_neg (by rw [hidle]; simp only [Config.idleLimit]; omega)]
      exact ⟨hphase, congrArg (· + 1) hidle, by show u.link.prev = _; rw [ht.link]⟩
    · rw [if_pos (by rw [hidle, hi]; decide)]
      rw [idleTimeout_shifting (s := { u with link := { u.link with idle := u.link.idle + 1 } }) hphase, link_rejectFrame]
      exact ⟨rfl, rfl, rfl, rfl, rfl, rfl⟩


/-! ## The admission checks of any frame -/

/-- The body of a parsed frame is its first forty bits (R6, R10). -/
theorem body_parseFrame (f : Frame48) : (parseFrame f).body = f.extractLsb' 8 40 := by
  ext j hj
  simp only [parseFrame, Request.body, BitVec.getElem_extractLsb']
  grind

theorem crcOk_parseFrame (f : Frame48) :
    (parseFrame f).crcOk = true ↔ crc8 (bytes5 (f.extractLsb' 8 40)) = f.extractLsb' 0 8 := by
  rw [Request.crcOk, body_parseFrame, beq_iff_eq]
  rfl

theorem word24_zero (y : BitVec 24) : y = 0#24 ↔ y.extractLsb' 16 8 = 0#8 ∧ y.extractLsb' 0 16 = 0#16 := by
  have h := y.isLt
  simp only [← BitVec.toNat_inj, BitVec.extractLsb'_toNat, BitVec.toNat_ofNat, Nat.shiftRight_eq_div_pow]
  omega

/-- Index and data word together are bits 39 to 16 (R6). -/
theorem index_data_zero (f : Frame48) :
    f.extractLsb' 16 24 = 0 ↔ f.extractLsb' 32 8 = 0 ∧ f.extractLsb' 16 16 = 0 := by
  have hi : (f.extractLsb' 16 24).extractLsb' 16 8 = f.extractLsb' 32 8 := by
    ext j hj
    simp [BitVec.getElem_extractLsb', show 16 + j < 24 by omega, ← Nat.add_assoc]
  have hd : (f.extractLsb' 16 24).extractLsb' 0 16 = f.extractLsb' 16 16 := by
    ext j hj
    simp [BitVec.getElem_extractLsb', show j < 24 by omega]
  exact (word24_zero _).trans (by rw [hi, hd]; rfl)

theorem opOf_eq_write (c : BitVec 2) : opOf c = .write ↔ c = 2 := by revert c; decide

theorem opOf_eq_probe (c : BitVec 2) : opOf c = .probe ↔ c = 0 := by revert c; decide

/-- The Form check by the bits of the frame (R11). -/
theorem formFault_iff (f : Frame48) : (parseFrame f).formFault = true ↔
    f.extractLsb' 46 2 = 3
    ∨ f.extractLsb' 8 4 ≠ 0
    ∨ ((f.extractLsb' 46 2 = 1 ∨ f.extractLsb' 46 2 = 2) ∧ f.extractLsb' 44 2 ≠ 2)
    ∨ (f.extractLsb' 46 2 = 2 ∧ f.extractLsb' 40 4 ≠ 0)
    ∨ (f.extractLsb' 46 2 = 1 ∧ f.extractLsb' 40 4 = 0)
    ∨ (f.extractLsb' 46 2 = 0 ∧ f.extractLsb' 40 4 = 0)
    ∨ (f.extractLsb' 44 2 = 0 ∧ f.extractLsb' 16 24 ≠ 0) := by
  have hz := not_congr (index_data_zero f)
  rw [not_and_or] at hz
  simp only [Request.formFault, parseFrame, Bool.or_eq_true, Bool.and_eq_true, beq_iff_eq, bne_iff_ne, ne_eq,
    opOf_eq_write, opOf_eq_probe, or_assoc, hz]

/-- Where there is no register (R13, R160). -/
theorem regAt_none_iff (index : Byte) : regAt index = none ↔
    index.toNat = 0x1F ∨ (0x2B ≤ index.toNat ∧ index.toNat ≤ 0x2F) ∨ index.toNat = 0x36 ∨ index.toNat = 0x37
      ∨ (0x3A ≤ index.toNat ∧ index.toNat ≤ 0x3F) ∨ 0xCE ≤ index.toNat := by
  revert index
  decide

/-- Which registers are read-only (R13, R160). -/
theorem readOnly_iff (index : Byte) : ((regAt index).any fun r => r.access == .readOnly) = true ↔
    index.toNat = 0x00 ∨ index.toNat = 0x01 ∨ index.toNat = 0x03 ∨ index.toNat = 0x04
      ∨ (0x0E ≤ index.toNat ∧ index.toNat ≤ 0x10) ∨ (0x12 ≤ index.toNat ∧ index.toNat ≤ 0x17)
      ∨ (0x19 ≤ index.toNat ∧ index.toNat ≤ 0x1E) ∨ index.toNat = 0x22 ∨ index.toNat = 0x23 ∨ index.toNat = 0x25
      ∨ (0x28 ≤ index.toNat ∧ index.toNat ≤ 0x2A) ∨ (0x30 ≤ index.toNat ∧ index.toNat ≤ 0x34)
      ∨ index.toNat = 0x38 ∨ index.toNat = 0x39
      ∨ (0x40 ≤ index.toNat ∧ index.toNat < 0xC0 ∧ index.toNat % 4 = 3) := by
  revert index
  decide

/-- Which registers are write-only (R13, R160). -/
theorem writeOnly_iff (index : Byte) : ((regAt index).any fun r => r.access == .writeOnly) = true ↔
    index.toNat = 0x02 ∨ index.toNat = 0x0C ∨ index.toNat = 0x0D ∨ index.toNat = 0x11 ∨ index.toNat = 0x18
      ∨ index.toNat = 0x26 := by
  revert index
  decide

/-- The Target check by the access class of the register at the index (R13). -/
theorem targetOf_none_iff {r : Request} (h : r.op ≠ 0) : targetOf r = none ↔
    regAt r.index = none ∨ (r.op ≠ 1 ∧ ((regAt r.index).any fun x => x.access == .readOnly) = true)
      ∨ (r.op ≠ 2 ∧ ((regAt r.index).any fun x => x.access == .writeOnly) = true) := by
  have hop : r.op = 1 ∨ r.op = 2 ∨ r.op = 3 := by
    revert h
    generalize r.op = c
    revert c
    decide
  unfold targetOf
  cases regAt r.index with
  | none => simp
  | some reg =>
    cases ha : reg.access <;> rcases hop with hop | hop | hop <;> simp [hop, opOf, ha]

/-- Settles O11: the checks are judged in their order, and a rejection with a quiet LINK only records. -/
theorem rejectionsAreRecorded : Obligations.RejectionsAreRecorded := by
  unfold Obligations.RejectionsAreRecorded
  dsimp only
  intro s m f hi hq
  have hx := linkQuiet_sampled hq m f
  have run (h : m ≠ 0) : exec (.frameRejection m f) s =
      .next (completeFrame (m = 48) (f >>> (48 - min 49 m)) (s.sampled m f)) :=
    congrArg Host.Outcome.next (hostFrame_idle hi h f)
  have whole (h : m = 48) : exec (.frameRejection m f) s = .next (completeFrame true f (s.sampled m f)) := by
    subst h
    rw [run (by decide), show f >>> (48 - min 49 48) = f from BitVec.ushiftRight_zero _]
    rfl
  refine ⟨fun h0 h48 => ?_, fun h48 hc => ?_, fun h48 hc hf => ?_, fun h48 hc hf ha ho ht => ?_, formFault_iff f,
    fun ho => ?_⟩
  · rw [run h0, completeFrame, if_pos (by simp [h48]), rejectFrame_quiet (flag := 1) hx .rejectedLength 0 0 rfl]
  · have hcrc : (parseFrame f).crcOk = false := Bool.eq_false_iff.mpr fun h => hc ((crcOk_parseFrame f).mp h)
    rw [whole h48, completeFrame, if_neg (by decide), if_pos (by simp [hcrc]),
      rejectFrame_quiet (flag := 2) hx .rejectedCheck _ _ rfl]
  · have hcrc := (crcOk_parseFrame f).mpr hc
    rw [whole h48, completeFrame, if_neg (by decide), if_neg (by simp [hcrc]), if_pos hf,
      rejectFrame_quiet (flag := 4) hx .rejectedForm _ _ rfl]
  · have hcrc := (crcOk_parseFrame f).mpr hc
    have haddr : (s.sampled m f).addressed (parseFrame f) = true := by
      rw [← ha]
      unfold State.sampled
      split <;> rfl
    have hop : opOf (parseFrame f).op ≠ .probe := fun h => ho ((opOf_eq_probe _).mp h)
    rw [whole h48, completeFrame, if_neg (by decide), if_neg (by simp [hcrc]), if_neg (by simp [hf]),
      if_neg (by simp [haddr]), if_neg hop, ht, rejectFrame_quiet (flag := 8) hx .rejectedTarget _ _ rfl]
  · rw [targetOf_none_iff (r := parseFrame f) ho, regAt_none_iff, readOnly_iff, writeOnly_iff]
    rfl

/-! ## Which frames address the node -/

theorem prev_recordReply (r : Request) (reply : Reply) (s : State) :
    (recordReply r reply s).link.prev = { outcome := reply.outcome, tag := r.tag, data := reply.data } := by
  unfold recordReply
  dsimp only
  split <;> rfl

/-- The record of an admitted frame carries its tag (R21). -/
theorem tag_admitFrame (r : Request) (reg : Reg) (s : State) : (admitFrame r reg s).link.prev.tag = r.tag := by
  have ho (w : Work) (reply : Reply) : (raiseOccurrence r reg reply w).st.link.prev = w.st.link.prev := by
    unfold raiseOccurrence
    split
    · rw [(frame_occur hostraiseId r.data w).link]
    · rfl
  rw [admitFrame_eq, link_finish]
  show (raiseOccurrence _ _ _ _).st.link.prev.tag = _
  rw [ho, map_st, prev_recordReply]

/-- Settles O13: the Addressing check on a request is `hears`. -/
theorem unaddressedFramesLeaveNoTrace : Obligations.UnaddressedFramesLeaveNoTrace := by
  unfold Obligations.UnaddressedFramesLeaveNoTrace
  intro s dest op index data tag hi hw
  simp only [wellFormed, Bool.and_eq_true, Bool.or_eq_true] at hw
  obtain ⟨⟨hd, ho⟩, hp⟩ := hw
  have ho : destDirected dest = true ∨ op = .write := by
    rcases ho with h | h
    · cases dest <;> simp_all [destDirected]
    · exact .inr (beq_iff_eq.mp h)
  have hp : op = .probe → index = 0 ∧ data = 0 := by
    rintro rfl
    simpa using hp
  refine ⟨fun h => ?dropped, fun h => ?recorded⟩
  case dropped =>
    have hn : s.hears dest = false := by
      cases dest with
      | directed id => rcases h with h | h <;> simp [State.hears, h]
      | zone z => simp [State.hears, h]
      | broadcast => exact h.elim
    have hs : s.heard dest = s := by simp [State.heard, hn]
    have ha : s.addressed (request dest op index data tag) = false := by rw [addressed_request s hd, hn]
    refine congrArg Host.Outcome.next ?_
    rw [sendRequest, Config.frameEdges, hostFrame_idle hi (by decide), sampled_request, hs,
      show (request dest op index data tag).frame >>> (48 - min 49 48) = _ from BitVec.ushiftRight_zero _,
      completeFrame, parseFrame_frame, if_neg (by decide), if_neg (by simp),
      if_neg (by simp [formFault_request tag hd ho hp]), if_pos (by simp [ha])]
  case recorded =>
    have hh : s.hears dest = true := by
      cases dest with
      | directed id =>
        subst h
        simpa [State.hears, Dest.wf] using hd
      | zone z => simpa [State.hears, Dest.wf, h] using hd
      | broadcast => rfl
    refine ⟨_, rfl, ?_⟩
    rw [sendRequest_heard tag hi hh ho hp]
    dsimp only
    split
    · exact tag_admitFrame _ _ _
    · split
      · rw [link_rejectFrame]
        rfl
      · exact tag_admitFrame _ _ _

end Sys2Proof.Machine
end

section
/-! PROOFS. Ticks outside Running: the samples, the settle filter and the readback comparison (O48), and the reset
interval (O4). -/

namespace Sys2Proof.Machine

-- one proof after another: each thread that elaborates costs the check a GiB of its memory limit
set_option Elab.async false

/-! ## The readback comparison -/

/-- A hold with its changed flag set where it is placed at `n` and `b` says so (R35). -/
def markedHold (n : Byte) (b : Bool) (h : HoldRecord) : HoldRecord := { h with changed := h.changed || (h.index == n && b) }

theorem map_markedHold_false (n : Byte) (o : Option HoldRecord) : o.map (markedHold n false) = o := by
  cases o <;> simp [markedHold]

theorem markHold_eq_marked (n : Byte) (s : State) :
    markHold n s = { s with link := { s.link with hold := s.link.hold.map (markedHold n true) } } := by
  have h : markedHold n true = fun h => { h with changed := h.changed || h.index == n } := by
    funext h
    rw [markedHold, Bool.and_true]
  rw [markHold_eq, h]

/-- MISMATCHDET after the comparison (R149). -/
def State.detAfter (s : State) : Word := s.act.mismatchDet ||| s.joining

/-- The hold after the comparison: a change of MISMATCHDET breaks a hold on it (R35). -/
def State.holdAfter (s : State) : Option HoldRecord := s.link.hold.map (markedHold 0x27 (s.detAfter != s.act.mismatchDet))

/-- The comparison: counters, mismatch set, MISMATCHDET and moved marks, and a hold on MISMATCHDET (R147 to R149). -/
theorem compareReadback_checked (s : State) :
    compareReadback s = { s with
      act := { s.act with
        counters := Vector.ofFn fun c => (checkChannel s c).1
        mismatchSet := wordOf fun c => (checkChannel s c).2.1
        mismatchDet := s.detAfter
        moved := 0 }
      link := { s.link with hold := s.holdAfter } } := by
  unfold compareReadback
  dsimp only
  split
  · next h => rw [State.holdAfter, State.detAfter, h, bne_self_eq_false, map_markedHold_false]
  · next h =>
    rw [State.holdAfter, State.detAfter, bne_iff_ne.mpr h]
    exact markHold_eq_marked _ _

/-- The channels that join the mismatch set are those that are in it afterwards and were not before (R148). -/
theorem joining_eq (s : State) : s.joining = (wordOf fun c => (checkChannel s c).2.1) &&& ~~~s.act.mismatchSet := by
  refine word_ext fun c => ?_
  rw [State.joining, getLsbD_wordOf, BitVec.getLsbD_and, getLsbD_wordOf, BitVec.getLsbD_not]
  simp only [c.isLt, decide_true, Bool.true_and]
  unfold checkChannel
  dsimp only
  split_ifs <;> simp_all

/-- The table of R147 for one channel: its counter and its membership after the check. -/
theorem checkChannel_table (s : State) (c : Channel) :
    ((checkChannel s c).1, (checkChannel s c).2.1) =
      let n := s.act.counters.get c
      let differs := s.scan.rawReadback.getLsbD c.val != s.act.effective.getLsbD c.val
      if s.act.rbcheck.getLsbD c.val = false then (0, false)
      else if s.act.mismatchSet.getLsbD c.val then (if differs then (n, true) else (0, false))
      else if s.act.moved.getLsbD c.val || !differs then (0, false)
      else (n + 1, decide (s.readbackWindow ≤ n + 1)) := by
  unfold checkChannel
  dsimp only
  rw [bne]
  cases s.act.rbcheck.getLsbD c.val with
  | false => rfl
  | true =>
  cases s.scan.rawReadback.getLsbD c.val == s.act.effective.getLsbD c.val <;>
  cases s.act.mismatchSet.getLsbD c.val <;> cases s.act.moved.getLsbD c.val <;>
  simp
  split <;> simp [*]

/-! ## The samples and the settle filter -/

theorem getLsbD_ofFnLE (f : LineId → Bool) (k : LineId) : (BitVec.ofFnLE f).getLsbD k.val = f k := by
  simp

theorem get_ofFn {n : Nat} {α : Type} (f : Fin n → α) (k : Fin n) : (Vector.ofFn f).get k = f k := by
  show (Vector.ofFn f)[k.val] = f k
  simp

/-- The settle filter of one line (R60, R61). -/
theorem sampleInputs_line (lines : BitVec 24) (readback : Word) (s : State) (k : LineId) :
    ((sampleInputs lines readback s).scan.filtered.getLsbD k.val, (sampleInputs lines readback s).scan.settle.get k) =
      if s.scan.started = false then (lines.getLsbD k.val, 0)
      else if lines.getLsbD k.val = s.scan.filtered.getLsbD k.val then (s.scan.filtered.getLsbD k.val, 0)
      else if max 1 (s.src (lineSource k)).settle ≤ s.scan.settle.get k + 1 then (lines.getLsbD k.val, 0)
      else (s.scan.filtered.getLsbD k.val, s.scan.settle.get k + 1) := by
  unfold sampleInputs
  cases s.scan.started with
  | false => simp [Vector.get]
  | true =>
    simp only [if_true, getLsbD_ofFnLE, get_ofFn, State.settleOf, settleLine, Bool.true_eq_false, if_false]
    split
    · rfl
    · split <;> rfl

/-! ## A tick outside Running -/

/-- Outside Running the outputs stand at their safe levels (R143). -/
theorem effectiveWord_of_not_running {s : State} (h : s.mc.mode ≠ .running) : s.effectiveWord = s.act.safe :=
  word_ext fun c => by rw [State.effectiveWord, getLsbD_wordOf, State.effectiveLevel, if_pos h]

theorem alertCondition_of_not_running {s : State} (h : s.mc.mode ≠ .running) :
    s.alertCondition = decide (s.mc.mode = .lockdown) := by
  unfold State.alertCondition
  cases hm : s.mc.mode with
  | configuring => rfl
  | running => exact absurd hm h
  | lockdown => rfl

/-- The state in which the readback comparison of a tick is made. -/
def sampledTick (lines : BitVec 24) (readback : Word) (s : State) : State :=
  sampleInputs lines readback (advanceCounter s)

/-- The happening of a tick outside Running: the counter, the samples, the comparison and the pins (R93). -/
theorem tickHappening_outside {s : State} (h : s.mc.mode ≠ .running) (lines : BitVec 24) (readback : Word) :
    tickHappening lines readback s = { s with
      tc := { s.tc with count := s.tc.count + 1 }
      scan := (sampleInputs lines readback s).scan
      arb := { s.arb with alert := decide (s.mc.mode = .lockdown) }
      act := { s.act with
        counters := Vector.ofFn fun c => (checkChannel (sampledTick lines readback s) c).1
        mismatchSet := wordOf fun c => (checkChannel (sampledTick lines readback s) c).2.1
        mismatchDet := (sampledTick lines readback s).detAfter
        effective := s.act.safe
        moved := s.act.effective ^^^ s.act.safe }
      link := { s.link with hold := (sampledTick lines readback s).holdAfter } } := by
  have heff := effectiveWord_of_not_running (s := compareReadback (sampledTick lines readback s))
    (by rw [compareReadback_eq]; exact h)
  have halert := alertCondition_of_not_running (s := compareReadback (sampledTick lines readback s))
    (by rw [compareReadback_eq]; exact h)
  rw [tickHappening_of_not_running h]
  show endHappening (compareReadback (sampledTick lines readback s)) = _
  unfold endHappening setAlert
  rw [show (recomputeLevels (compareReadback (sampledTick lines readback s))).alertCondition = _ from halert]
  unfold recomputeLevels
  rw [heff, compareReadback_checked]
  have hz : (0 : Word) ||| (s.act.effective ^^^ s.act.safe) = s.act.effective ^^^ s.act.safe := BitVec.zero_or
  rw [← hz]
  rfl

theorem countInterval_of_ended {s : State} (h : s.rst.intervalLeft = 0) : countInterval s = s := if_pos h

theorem countIdle_of_ne {s : State} (h : s.link.phase ≠ .shifting) : countIdle s = s := if_neg h

/-- Settles O48, by the state that `tickHappening_outside` names. -/
theorem tickOutsideRunning : Obligations.TickOutsideRunning := by
  unfold Obligations.TickOutsideRunning
  refine ⟨fun s lines readback hh => congrArg Host.Outcome.next (if_pos hh), fun s lines readback hh hl hp hm => ?_⟩
  refine ⟨tickHappening lines readback s, ?_, ?_⟩
  · refine congrArg Host.Outcome.next ((scanTick_eq hh hl lines readback).trans (countIdle_of_ne ?_))
    rw [(tickFrame_tickHappening s lines readback).link]
    exact hp
  rw [tickHappening_outside hm]
  refine ⟨rfl, ?_, ?_, ?_, fun k => ?_, fun c => ?_, ?_, rfl, rfl, rfl, rfl⟩
  · show (sampleInputs lines readback s).scan.rawLines = _
    unfold sampleInputs
    split <;> rfl
  · show (sampleInputs lines readback s).scan.rawReadback = _
    unfold sampleInputs
    split <;> rfl
  · show (sampleInputs lines readback s).scan.started = _
    unfold sampleInputs
    split <;> rfl
  · exact sampleInputs_line lines readback s k
  · have hraw : (sampledTick lines readback s).scan.rawReadback = readback := by
      unfold sampledTick sampleInputs
      split <;> rfl
    have h := checkChannel_table (sampledTick lines readback s) c
    rw [hraw] at h
    rw [get_ofFn, getLsbD_wordOf, h]
    rfl
  · exact congrArg (s.act.mismatchDet ||| ·) (joining_eq (sampledTick lines readback s))

/-! ## The reset interval -/

/-- In the course of the reset interval, `n` ticks after the release (R52, R53). -/
structure InInterval (high powerOn : Bool) (n : Nat) (t : State) : Prop where
  count : t.tc.count = BitVec.ofNat 32 n
  held : t.rst.held = false
  left : t.rst.intervalLeft = 10 - n
  seen : t.rst.powerOnSeen = if n = 10 then false else powerOn
  phase : t.link.phase = if n = 10 ∧ high = true then .ready else .barred
  lsel : t.link.lselHigh = high
  mode : t.mc.mode = .configuring
  cause : t.mc.resetCause = if powerOn = true then .powerOn else .pin
  alert : t.arb.alert = false
  safe : t.act.safe = 0
  effective : t.act.effective = 0

/-- The tick's happening leaves the interval to be counted (R52, R93). -/
theorem InInterval.happening {high powerOn : Bool} {n : Nat} {t : State} (h : InInterval high powerOn n t)
    (lines : BitVec 24) (readback : Word) :
    ∃ u, tickHappening lines readback t = u ∧ u.tc.count = BitVec.ofNat 32 (n + 1) ∧ u.rst = t.rst
      ∧ u.link = { t.link with hold := u.link.hold } ∧ u.mc = t.mc ∧ u.arb.alert = false ∧ u.act.safe = 0
      ∧ u.act.effective = 0 := by
  have hrun : t.mc.mode ≠ .running := by rw [h.mode]; decide
  refine ⟨_, rfl, ?_⟩
  rw [tickHappening_outside hrun]
  refine ⟨?_, rfl, rfl, rfl, ?_, h.safe, h.safe⟩
  · rw [BitVec.ofNat_add, ← h.count]
    rfl
  · show decide (t.mc.mode = .lockdown) = false
    rw [h.mode]
    rfl

/-- A tick of the reset interval is counted, and the tenth ends it (R52, R93). -/
theorem InInterval.tick {high powerOn : Bool} {n : Nat} {t : State} (h : InInterval high powerOn n t) (hn : n < 10)
    (lines : BitVec 24) (readback : Word) : InInterval high powerOn (n + 1) (scanTick lines readback t) := by
  have hbarred : t.link.phase = .barred := by rw [h.phase, if_neg (by omega)]
  obtain ⟨u, hu, hcount, hrst, hlink, hmc, halert, hsafe, heffective⟩ := h.happening lines readback
  have hleft : u.rst.intervalLeft = 10 - n := by rw [hrst, h.left]
  have hlsel : u.link.lselHigh = high := by rw [hlink]; exact h.lsel
  have hphase : u.link.phase = .barred := by rw [hlink]; exact hbarred
  have hheld : u.rst.held = false := by rw [hrst, h.held]
  have hmode : u.mc.mode = .configuring := by rw [hmc, h.mode]
  have hcause : u.mc.resetCause = if powerOn = true then .powerOn else .pin := by rw [hmc, h.cause]
  rw [scanTick, if_neg (by simp [h.held]), hu]
  by_cases h9 : n = 9
  · subst h9
    rw [countInterval, if_neg (by rw [hleft]; decide), if_pos hleft, endInterval]
    cases high with
    | false =>
      rw [if_neg (by rw [hlsel]; decide), countIdle_of_ne (by rw [show _ = LinkPhase.barred from hphase]; decide)]
      exact ⟨hcount, hheld, rfl, rfl, hphase, hlsel, hmode, hcause, halert, hsafe, heffective⟩
    | true =>
      rw [if_pos hlsel, countIdle_of_ne (show LinkPhase.ready ≠ .shifting by decide)]
      exact ⟨hcount, hheld, rfl, rfl, rfl, hlsel, hmode, hcause, halert, hsafe, heffective⟩
  · rw [countInterval, if_neg (by omega), if_neg (by omega),
      countIdle_of_ne (by rw [show _ = LinkPhase.barred from hphase]; decide)]
    have hseen : u.rst.powerOnSeen = powerOn := by rw [hrst, h.seen, if_neg (by omega)]
    refine ⟨hcount, hheld, ?_, ?_, ?_, hlsel, hmode, hcause, halert, hsafe, heffective⟩
    · show u.rst.intervalLeft - 1 = _
      omega
    · rw [if_neg (by omega)]
      exact hseen
    · rw [if_neg (by omega)]
      exact hphase

/-- The ticks of the reset interval, one after another (R52). -/
theorem InInterval.ticks {high powerOn : Bool} {ticks : List (BitVec 24 × Word)} {n : Nat} {t : State}
    (h : InInterval high powerOn n t) (hn : n + ticks.length ≤ 10) :
    ∃ u, execAll (ticks.map fun p => .scanTick p.1 p.2) t = .next u ∧ InInterval high powerOn (n + ticks.length) u := by
  induction ticks generalizing n t with
  | nil => exact ⟨t, rfl, h⟩
  | cons p rest ih =>
    rw [List.length_cons] at hn ⊢
    obtain ⟨u, hu, hi⟩ := ih (h.tick (by omega) p.1 p.2) (by omega)
    exact ⟨u, hu, by rwa [Nat.add_comm rest.length, ← Nat.add_assoc]⟩

/-- After a hard reset and its release the interval begins (R49, R52). -/
theorem inInterval_release (s : State) (powerOn : Bool) (ida idb : BitVec 2) :
    ∃ t, exec (.hardResetRelease ida idb) (hardReset powerOn s) = .next t ∧ InInterval s.link.lselHigh powerOn 0 t := by
  obtain ⟨t, hx, -, ht, -⟩ := (releaseLatchesIdentityAndCause (hardReset powerOn s) ida idb).1 rfl
  refine ⟨t, hx, ?_⟩
  rw [ht]
  exact ⟨rfl, rfl, rfl, rfl, rfl, rfl, rfl, rfl, rfl, rfl, rfl⟩

/-- Settles O4, by `InInterval` from tick to tick. -/
theorem resetIntervalLastsTenTicks : Obligations.ResetIntervalLastsTenTicks := by
  unfold Obligations.ResetIntervalLastsTenTicks
  refine ⟨fun s c ida idb ticks hc hlen => ?_, fun s hh hl => ?_, fun s h => ?_⟩
  · have start : exec c s = .next (hardReset (decide (c = .powerOnReset ∨ s.rst.powerOnSeen = true)) s) := by
      cases c with
      | powerOnReset => rfl
      | pinReset => simp [exec, execPinReset]
      | _ => exact absurd hc (by simp [isHardReset])
    generalize hp : decide (c = .powerOnReset ∨ s.rst.powerOnSeen = true) = powerOn at start
    obtain ⟨t, hx, ht⟩ := inInterval_release s powerOn ida idb
    obtain ⟨u, hu, h⟩ := ht.ticks (ticks := ticks) (by omega)
    rw [Nat.zero_add] at h
    refine ⟨u, ?_, h.count, h.held, h.left, h.phase, h.mode, h.alert, h.effective, ?_, ?_⟩
    · rw [execAll, start]
      show execAll (_ :: _) (hardReset powerOn s) = _
      rw [execAll, hx]
      exact hu
    · simp only [h.cause, ← hp, decide_eq_true_eq]
    · rw [h.seen, ← hp]
  · refine congrArg Host.Outcome.next ((if_neg (by simp [hh, hl])).trans ?_)
    rw [endInterval]
    split <;> rfl
  · refine congrArg Host.Outcome.next (if_pos ?_)
    rcases h with h | h <;> simp [h]

end Sys2Proof.Machine
end

section
/-! PROOFS. Writes of the registers that keep a value, and Reads (O17, O21 to O24). -/

namespace Sys2Proof.Machine

-- one proof after another: each thread that elaborates costs the check a GiB of its memory limit
set_option Elab.async false

/-! ## Writes of registers that keep a value -/

/-- A write of a register that keeps a value is one update of the state, and reports the new value (R27). -/
theorem performWrite_readWrite {r : Reg} (h : r.access = .readWrite) (data : Word) (w : Work) :
    performWrite r data w = (w.map (putReg r data), ⟨.done, readReg (putReg r data w.st) r⟩) := by
  unfold performWrite
  split
  case h_7 => rfl
  all_goals exact absurd h (by decide)

/-- A write does not look at the hold (R27, R34). -/
theorem putReg_endHold (r : Reg) (data : Word) (s : State) : putReg r data (endHold s) = endHold (putReg r data s) := by
  cases r <;> rfl

/-- A state with another receipt and hold. -/
def State.linked (s : State) (receipt : Receipt40) (hold : Option HoldRecord) : State :=
  { s with link := { s.link with receipt := receipt, hold := hold } }

/-- A heard frame has built a receipt, and ended the hold (R17, R34). -/
theorem endHold_heard (s : State) (dest : Dest) : endHold (s.heard dest) = s.linked (s.heard dest).link.receipt none := by
  unfold State.heard
  split <;> rfl

theorem putReg_linked (r : Reg) (data : Word) (s : State) (receipt : Receipt40) (hold : Option HoldRecord) :
    putReg r data (s.linked receipt hold) = (putReg r data s).linked receipt hold := by
  cases r <;> rfl

/-- No register shows the receipt or the hold. -/
theorem readReg_linked (r : Reg) (s : State) (receipt : Receipt40) (hold : Option HoldRecord) :
    readReg (s.linked receipt hold) r = readReg s r := by
  cases r <;> rfl

theorem readReg_endHold_heard (r : Reg) (s : State) (dest : Dest) :
    readReg (endHold (s.heard dest)) r = readReg s r := by
  rw [endHold_heard, readReg_linked]

/-- A Write that an idle node hears and accepts, of a register that keeps a value (R27). -/
theorem sendRequest_write_value {s : State} {dest : Dest} {index : Byte} {r : Reg} {data : Word} (tag : BitVec 4)
    (hi : s.linkIdle) (hh : s.hears dest = true) (hb : s.brokenFor dest index = false) (hr : regAt index = some r)
    (ha : r.access = .readWrite) (hw : writeRefusal s r data = none) :
    sendRequest dest .write index data tag s =
      s.after dest .done tag (readReg (putReg r data s) r) (putReg r data) := by
  have hv : readReg (putReg r data (endHold (s.heard dest))) r = readReg (putReg r data s) r := by
    rw [endHold_heard, putReg_linked, readReg_linked]
  rw [← hv]
  refine sendRequest_write_accepted (reply := ⟨.done, _⟩) tag hi hh hb hr (by rw [ha]; decide) hw
    (performWrite_readWrite ha data _) (putReg_endHold _ _ _) ?_
  rintro rfl
  exact absurd ha (by decide)

/-- A mask write keeps the other half of the mask (R74). -/
theorem getLsbD_putMask (upper : Bool) (data : Word) (m : BitVec 32) {i : Nat} (hi : i < 32) :
    (putMask upper data m).getLsbD i =
      if (upper = false ∧ i < 16) ∨ (upper = true ∧ 16 ≤ i) then data.getLsbD (i % 16) else m.getLsbD i := by
  cases upper with
  | false =>
    have happ : (putMask false data m).getLsbD i =
        if i < 16 then data.getLsbD i else (m.extractLsb' 16 16).getLsbD (i - 16) := BitVec.getLsbD_append
    rw [happ]
    by_cases h : i < 16
    · simp [h, Nat.mod_eq_of_lt h]
    · simp [h, show i - 16 < 16 by omega, show 16 + (i - 16) = i by omega]
  | true =>
    have happ : (putMask true data m).getLsbD i =
        if i < 16 then (m.extractLsb' 0 16).getLsbD i else data.getLsbD (i - 16) := BitVec.getLsbD_append
    rw [happ]
    by_cases h : i < 16
    · simp [h, show ¬16 ≤ i by omega]
    · simp [h, show 16 ≤ i by omega, show i % 16 = i - 16 by omega]

/-- The half that a mask write gives, and the half that it keeps (R74). -/
theorem putMask_half (upper : Bool) (data : Word) (m : BitVec 32) :
    (putMask upper data m).extractLsb' (if upper then 16 else 0) 16 = data
    ∧ (putMask upper data m).extractLsb' (if upper then 0 else 16) 16 = m.extractLsb' (if upper then 0 else 16) 16 := by
  constructor
  · refine BitVec.eq_of_getLsbD_eq fun j hj => ?_
    cases upper with
    | false => simp [hj, getLsbD_putMask false data m (show j < 32 by omega), Nat.mod_eq_of_lt hj]
    | true => simp [hj, getLsbD_putMask true data m (show 16 + j < 32 by omega), Nat.mod_eq_of_lt hj]
  · refine BitVec.eq_of_getLsbD_eq fun j hj => ?_
    cases upper with
    | false => simp [hj, getLsbD_putMask false data m (show 16 + j < 32 by omega)]
    | true => simp [hj, getLsbD_putMask true data m (show j < 32 by omega), show ¬16 ≤ j by omega]

/-- A plain register reads as written (R27). -/
theorem readReg_putReg_plain {r : Reg} (h : plainWritable r = true) (data : Word) (s : State) :
    readReg (putReg r data s) r = data := by
  cases r with
  | maskLo => exact (putMask_half false data s.srcs.mask).1
  | maskHi => exact (putMask_half true data s.srcs.mask).1
  | zones | policy | silwin | operate | safe | rbcheck | jfilter => rfl
  | _ => exact absurd h nofun

/-- The plain registers may be held, and so written (R13). -/
theorem readWrite_of_plain {r : Reg} (h : plainWritable r = true) : r.access = .readWrite := by
  cases r <;> first | rfl | cases h

/-- Settles O21: a plain register's checks, and the word it then reads as. -/
theorem registerWriteStoresTheWord : Obligations.RegisterWriteStoresTheWord := by
  unfold Obligations.RegisterWriteStoresTheWord
  intro s dest index data tag r hi hh hr hp hb hm hs hzones hpolicy hsilwin hfilter
  have hw : writeRefusal s r data = none := by
    have hmode : (s.mc.mode == .lockdown) = false := by simpa using hm
    have hmask : ~~~filterBits = 0xFC71#16 := by decide
    have hsealed : s.regs.sealed = true → sealProtected r = false := fun h => by
      rcases hs h with rfl | rfl | rfl | rfl <;> rfl
    cases r <;> simp_all [writeRefusal, modeRefuses, sealProtected, specificRefusal, plainWritable]
  refine congrArg Host.Outcome.next ?_
  rw [sendRequest_write_value tag hi hh hb hr (readWrite_of_plain hp) hw, readReg_putReg_plain hp]

/-! ## What a plain write changes -/

/-- The words of a descriptor that may be written are W0 to W2 (R31). -/
theorem below_three : ∀ w : Fin 4, w ≠ 3 → w = 0 ∨ w = 1 ∨ w = 2 := by decide

/-- Another register reads as before a plain write, but for W3 (R27). -/
theorem readReg_putReg_ne {r r' : Reg} (hp : plainWritable r = true) (hr : r' ≠ r) (hw : ∀ i : SourceId, r' ≠ .desc i 3)
    (data : Word) (s : State) : readReg (putReg r data s) r' = readReg s r' := by
  have hdesc (i : SourceId) (w : Fin 4) (h : Reg.desc i w ≠ .desc i 3) : w = 0 ∨ w = 1 ∨ w = 2 :=
    below_three w fun e => h (by rw [e])
  cases r with
  | maskLo =>
    cases r' with
    | maskLo => exact absurd rfl hr
    | maskHi => exact (putMask_half false data s.srcs.mask).2
    | desc i w => rcases hdesc i w (hw i) with rfl | rfl | rfl <;> rfl
    | _ => rfl
  | maskHi =>
    cases r' with
    | maskHi => exact absurd rfl hr
    | maskLo => exact (putMask_half true data s.srcs.mask).2
    | desc i w => rcases hdesc i w (hw i) with rfl | rfl | rfl <;> rfl
    | _ => rfl
  | zones | policy | silwin | operate | safe | rbcheck | jfilter => cases r' <;> first | rfl | exact absurd rfl hr
  | _ => exact absurd hp nofun

/-- The mask bit that W3 repeats is its bit 2 (R69, R74). -/
theorem w3_bit2 (a : BitVec 13) (m n o e : Bool) :
    (a ++ BitVec.ofBool n ++ BitVec.ofBool o ++ BitVec.ofBool e : BitVec 16) =
      ((a ++ BitVec.ofBool m ++ BitVec.ofBool o ++ BitVec.ofBool e : BitVec 16) &&& 0xFFFB) ||| (if n then 4 else 0) := by
  refine BitVec.eq_of_getLsbD_eq fun j hj => ?_
  have happ (b : Bool) : (a ++ BitVec.ofBool b ++ BitVec.ofBool o ++ BitVec.ofBool e : BitVec 16).getLsbD j =
      if j < 1 then (BitVec.ofBool e).getLsbD j
      else if j - 1 < 1 then (BitVec.ofBool o).getLsbD (j - 1)
      else if j - 1 - 1 < 1 then (BitVec.ofBool b).getLsbD (j - 1 - 1)
      else a.getLsbD (j - 1 - 1 - 1) := by
    rw [BitVec.getLsbD_append, BitVec.getLsbD_append, BitVec.getLsbD_append]
  have hmask : ∀ j, j < 16 → (0xFFFB : BitVec 16).getLsbD j = decide (j ≠ 2) := by decide
  have hbit : ∀ j, j < 16 → (if n then (4 : BitVec 16) else 0).getLsbD j = (decide (j = 2) && n) := by
    cases n <;> decide
  rw [BitVec.getLsbD_or, BitVec.getLsbD_and, hmask j hj, hbit j hj, happ, happ]
  by_cases h0 : j < 1
  · simp [h0, show j ≠ 2 by omega]
  by_cases h1 : j - 1 < 1
  · simp [h0, h1, show j ≠ 2 by omega]
  by_cases h2 : j = 2
  · simp [h2]
  · simp [h0, h1, show ¬j - 1 - 1 < 1 by omega, h2]

/-- W3 by what a mask write leaves of it and its mask bit (R69). -/
theorem w3_of_mask {s t : State} {i : SourceId} (h : t.src i = s.src i) :
    t.w3 i = (s.w3 i &&& 0xFFFB) ||| (if t.masked i then 4 else 0) := by
  simp only [State.w3, h]
  exact w3_bit2 _ (s.masked i) (t.masked i) _ _

theorem w3_of_same {s t : State} {i : SourceId} (h : t.src i = s.src i) (hm : t.masked i = s.masked i) :
    t.w3 i = s.w3 i := by
  simp only [State.w3, h, hm]

/-- W3 after a plain write: only the mask bit may differ (R69, R74). -/
theorem w3_putReg {r : Reg} (hp : plainWritable r = true) (data : Word) (s : State) (i : SourceId) :
    (putReg r data s).w3 i =
      if ((r = .maskLo ∧ i.val < 16) ∨ (r = .maskHi ∧ 16 ≤ i.val)) then
        (s.w3 i &&& 0xFFFB) ||| (if data.getLsbD (i.val % 16) then 4 else 0)
      else s.w3 i := by
  have lo := getLsbD_putMask false data s.srcs.mask i.isLt
  have hi := getLsbD_putMask true data s.srcs.mask i.isLt
  cases r with
  | maskLo =>
    by_cases h : i.val < 16
    · rw [if_pos (.inl ⟨rfl, h⟩), ← lo.trans (if_pos (.inl ⟨rfl, h⟩))]
      exact w3_of_mask rfl
    · rw [if_neg (by simp [h])]
      exact w3_of_same rfl (lo.trans (if_neg (by simp [h])))
  | maskHi =>
    by_cases h : 16 ≤ i.val
    · rw [if_pos (.inr ⟨rfl, h⟩), ← hi.trans (if_pos (.inr ⟨rfl, h⟩))]
      exact w3_of_mask rfl
    · rw [if_neg (by simp [h])]
      exact w3_of_same rfl (hi.trans (if_neg (by simp [h])))
  | zones | policy | silwin | operate | safe | rbcheck | jfilter =>
    rw [if_neg (by simp)]
    exact w3_of_same rfl rfl
  | _ => exact absurd hp nofun

/-- Settles O22, register by register. -/
theorem plainWriteChangesOneRegister : Obligations.PlainWriteChangesOneRegister := by
  unfold Obligations.PlainWriteChangesOneRegister
  refine fun s r data hp => ⟨readReg_putReg_plain hp data s, fun r' hr hw => readReg_putReg_ne hp hr hw data s,
    fun i => w3_putReg hp data s i, ?_⟩
  cases r <;> first | rfl | cases hp

/-! ## Writes that clear -/

/-- Settles O23: the three writes pass their checks in every mode and whatever the seal. -/
theorem clearingWritesClear : Obligations.ClearingWritesClear := by
  unfold Obligations.ClearingWritesClear
  intro s dest data tag hi hh
  refine ⟨fun hb hd => ?_, fun hb => ?_, fun hb => ?_⟩
  · exact congrArg Host.Outcome.next <| sendRequest_write_value (r := .linkfault) tag hi hh hb rfl rfl
      (by simp [writeRefusal, modeRefuses, sealProtected, specificRefusal, hd])
  · exact congrArg Host.Outcome.next <| sendRequest_write_value (r := .linkcount) tag hi hh hb rfl rfl
      (by simp [writeRefusal, modeRefuses, sealProtected, specificRefusal])
  · exact congrArg Host.Outcome.next <| sendRequest_write_value (r := .mismatchdet) tag hi hh hb rfl rfl
      (by simp [writeRefusal, modeRefuses, sealProtected, specificRefusal])

/-! ## Reads and Probes -/

theorem hears_own {s : State} (h : s.mc.nodeId ≠ 0) : s.hears (.directed s.mc.nodeId) = true := by
  simpa [State.hears] using h

/-- Settles O24: an ordinary Read has no effect, the other two one update each. -/
theorem readsReturnTheRegister : Obligations.ReadsReturnTheRegister := by
  unfold Obligations.ReadsReturnTheRegister
  intro s data tag hi hid
  dsimp only
  have hh := hears_own hid
  have value (r : Reg) : readReg ((begin (s.heard (.directed s.mc.nodeId))).map endHold).st r = readReg s r :=
    readReg_endHold_heard r s _
  refine ⟨fun index r hr ha hclaim hlockrec htime => ?_, ?_, ?_⟩
  · refine congrArg Host.Outcome.next
      (sendRequest_read (reply := ⟨.done, readReg s r⟩) (f := id) tag hi hh rfl hr ha ?_ rfl)
    rw [← value]
    unfold executeRead
    split
    case h_4 => rfl
    all_goals contradiction
  · refine congrArg Host.Outcome.next
      (sendRequest_read (reg := .timeHi) (reply := ⟨.done, readReg s .timeHi⟩) tag hi hh rfl rfl nofun ?_ rfl)
    rw [← value]
    rfl
  · refine congrArg Host.Outcome.next
      (sendRequest_read (reg := .lockrec) (reply := ⟨.done, readReg s .lockrec⟩) tag hi hh rfl rfl nofun ?_ rfl)
    rw [← value]
    rfl

/-- Settles O17: a Probe has no effect but its record, and the pins stand as they were. -/
theorem probeOnlyRecordsAndFeeds : Obligations.ProbeOnlyRecordsAndFeeds := by
  unfold Obligations.ProbeOnlyRecordsAndFeeds
  intro s tag hr hi hid
  have hh := hears_own hid
  have hx : sendRequest (.directed s.mc.nodeId) .probe 0 0 tag s = s.after (.directed s.mc.nodeId) .done tag 0 id := by
    rw [sendRequest_heard tag hi hh (.inl rfl) fun _ => ⟨rfl, rfl⟩]
    dsimp only
    rw [if_pos rfl, admitFrame_of_update (reg := .ident) (f := id) (reply := ⟨.done, 0⟩) ?_ nofun, State.after]
    · exact congrArg endHappening (recordReply_request _ _ _ _ _ _ _)
    · rfl
  refine congrArg Host.Outcome.next (hx.trans ?_)
  rw [after_id_of_atRest hr, State.heard, hh]
  unfold State.replied
  cases hm : s.mc.mode <;> simp [destDirected, loadWatchdog, hm]
  rfl

end Sys2Proof.Machine
end

section
/-! PROOFS. The checks of a Write in the words of their tables, and the refusals (O19). -/

namespace Sys2Proof.Machine

-- one proof after another: each thread that elaborates costs the check a GiB of its memory limit
set_option Elab.async false

/-! ## The three tiers -/

/-- No register-specific check answers Mode or Sealed (R30). -/
theorem specificRefusal_ne (s : State) (r : Reg) (data : Word) :
    specificRefusal s r data ≠ some .mode ∧ specificRefusal s r data ≠ some .sealed := by
  unfold specificRefusal descriptorRefusal
  dsimp only
  repeat' split
  all_goals exact ⟨nofun, nofun⟩

theorem refused_mode_iff (s : State) (r : Reg) (data : Word) :
    writeRefusal s r data = some .mode ↔ modeRefuses s.mc.mode r data = true := by
  unfold writeRefusal
  split
  · next h => simp [h]
  · next h =>
    split
    · simp [h]
    · simp [h, (specificRefusal_ne s r data).1]

theorem refused_sealed_iff (s : State) (r : Reg) (data : Word) :
    writeRefusal s r data = some .sealed ↔
      writeRefusal s r data ≠ some .mode ∧ s.regs.sealed = true ∧ sealProtected r = true := by
  rw [ne_eq, refused_mode_iff]
  unfold writeRefusal
  split
  · next h => simp [h]
  · next h =>
    split
    · next g => simpa [h] using g
    · next g =>
      have g : ¬(s.regs.sealed = true ∧ sealProtected r = true) := by simpa using g
      simp only [(specificRefusal_ne s r data).2, false_iff]
      exact fun k => g k.2

/-- A Write that Mode and Sealed let through meets its register's own checks (R27). -/
theorem writeRefusal_specific {s : State} {r : Reg} {data : Word} (hm : modeRefuses s.mc.mode r data = false)
    (hs : s.regs.sealed = true → sealProtected r = false) : writeRefusal s r data = specificRefusal s r data := by
  unfold writeRefusal
  rw [if_neg (by simp [hm]), if_neg]
  intro h
  rw [Bool.and_eq_true] at h
  rw [hs h.1] at h
  exact absurd h.2 (by decide)

theorem writeRefusal_of_passed {s : State} {r : Reg} {data : Word} (hm : writeRefusal s r data ≠ some .mode)
    (hs : writeRefusal s r data ≠ some .sealed) : writeRefusal s r data = specificRefusal s r data := by
  have hmode : modeRefuses s.mc.mode r data = false := Bool.eq_false_iff.mpr fun h => hm ((refused_mode_iff s r data).mpr h)
  refine writeRefusal_specific hmode fun h => Bool.eq_false_iff.mpr fun g => hs ?_
  exact (refused_sealed_iff s r data).mpr ⟨hm, h, g⟩

/-! ## The Mode and Sealed columns -/

/-- The Mode column of ACTION (R28). -/
theorem modeRefuses_action (m : Mode) (data : Word) : modeRefuses m .action data = true ↔
    (data = 1 ∧ m ≠ .configuring) ∨ (data = 2 ∧ m ≠ .running) ∨ (data = 3 ∧ m ≠ .lockdown)
      ∨ (data = 4 ∧ m = .lockdown) ∨ (data = 6 ∧ m = .running) := by
  simp only [modeRefuses]
  by_cases h1 : data = 1
  · simp [h1]
  by_cases h2 : data = 2
  · simp [h2]
  by_cases h3 : data = 3
  · simp [h3]
  by_cases h4 : data = 4
  · simp [h4]
  by_cases h6 : data = 6
  · simp [h6]
  · simp only [h1, h2, h3, h4, h6, if_false, false_and, or_self, Bool.false_eq_true]

/-- The Mode column of R28. -/
theorem modeRefuses_iff (m : Mode) (r : Reg) (data : Word) : modeRefuses m r data = true ↔
    (r = .action ∧ ((data = 1 ∧ m ≠ .configuring) ∨ (data = 2 ∧ m ≠ .running) ∨ (data = 3 ∧ m ≠ .lockdown)
        ∨ (data = 4 ∧ m = .lockdown) ∨ (data = 6 ∧ m = .running)))
      ∨ (r = .raise ∧ m ≠ .running)
      ∨ (m ≠ .configuring ∧ ∃ w, r = .desc compoundId w ∨ r = .desc overrunId w)
      ∨ (m = .lockdown ∧ r ≠ .action ∧ r ≠ .raise ∧ r ≠ .linkfault ∧ r ≠ .linkcount ∧ r ≠ .mismatchdet) := by
  cases r with
  | action => simp [modeRefuses_action]
  | raise => simp [modeRefuses]
  | desc i w =>
    by_cases hi : i = compoundId ∨ i = overrunId
    · simp only [modeRefuses, if_pos hi, bne_iff_ne]
      constructor
      · exact fun hm => .inr (.inr (.inl ⟨hm, w, by simpa using hi⟩))
      · rintro (⟨h, -⟩ | ⟨h, -⟩ | ⟨hm, -⟩ | ⟨hm, -⟩)
        · cases h
        · cases h
        · exact hm
        · simp [hm]
    · simp only [modeRefuses, if_neg hi]
      rw [not_or] at hi
      simp [hi]
  | linkfault => simp [modeRefuses]
  | linkcount => simp [modeRefuses]
  | mismatchdet => simp [modeRefuses]
  | _ => simp [modeRefuses]

/-- What the seal protects (R29). -/
theorem sealProtected_iff (r : Reg) : sealProtected r = true ↔
    (∃ i w, r = .desc i w) ∨ (∃ k wordB, r = .react k wordB) ∨ r = .zones ∨ r = .policy ∨ r = .safe ∨ r = .silwin
      ∨ r = .rbcheck ∨ r = .disarm := by
  cases r <;> simp [sealProtected]

/-! ## The register-specific checks -/

/-- The checks of ACTION (R30, R36). -/
theorem specificRefusal_action (s : State) (data : Word) : specificRefusal s .action data =
    if data = 0 ∨ 8 < data.toNat then some .unknownAction
    else if data = 2 ∧ ¬(s.svc.stack = [] ∧ s.arb.waiting = []) then some .engineBusy
    else if (data = 3 ∨ data = 6) ∧ s.mc.mode = .lockdown ∧ s.mc.causeSeen = false then some .causeUnseen
    else none := by
  have hcode : (!(decide (1 ≤ data.toNat) && decide (data.toNat ≤ 8))) = true ↔ data = 0 ∨ 8 < data.toNat := by
    simp only [Bool.not_eq_true', Bool.and_eq_false_iff, decide_eq_false_iff_not]
    bv_omega
  simp only [specificRefusal, hcode, List.isEmpty_iff, Bool.not_eq_true]

/-- The data word of a command that names a source (R30, R162). -/
theorem sourceFieldFault_iff (data : Word) : sourceFieldFault data = true ↔ data.extractLsb' 5 11 ≠ 0 := by
  simp [sourceFieldFault]

theorem armed_iff (x : Source) : x.armed = true ↔ x.state ≠ .disarmed := by simp [Source.armed]

theorem busy_iff (s : State) (i : SourceId) : s.busy i = true ↔
    (s.src i).state = .pending ∨ (s.src i).state = .serving ∨ (s.src i).state = .absorbed := by
  simp [State.busy, or_assoc]

/-- The answer of Arm validation as a reason (R33, R71). -/
theorem invalidDescriptor_map (o : Option (BitVec 4)) :
    (match o with | some n => some (Reason.invalidDescriptor n) | none => none) = o.map .invalidDescriptor := by
  cases o <;> rfl

/-- The checks of ARM (R72). -/
theorem specificRefusal_arm (s : State) (data : Word) : specificRefusal s .arm data =
    if data.extractLsb' 5 11 ≠ 0 then some .field
    else if (s.src (namedSource data)).state ≠ .disarmed then none
    else (armFault (namedSource data) (s.src (namedSource data))).map .invalidDescriptor := by
  simp only [specificRefusal, sourceFieldFault_iff, armed_iff]
  congr 2
  exact invalidDescriptor_map _

/-- The checks of DISARM (R73). -/
theorem specificRefusal_disarm (s : State) (data : Word) : specificRefusal s .disarm data =
    if data.extractLsb' 5 11 ≠ 0 then some .field
    else if namedSource data = compoundId ∨ namedSource data = overrunId then some .notArmable
    else if (s.src (namedSource data)).state = .pending ∨ (s.src (namedSource data)).state = .serving
      ∨ (s.src (namedSource data)).state = .absorbed then some .sourceBusy
    else none := by
  simp only [specificRefusal, sourceFieldFault_iff, busy_iff]

/-- The checks of COMPLETE (R105). -/
theorem specificRefusal_complete (s : State) (data : Word) : specificRefusal s .complete data =
    if data.extractLsb' 5 11 ≠ 0 then some .field
    else match s.svc.stack with
      | [] => some .stackEmpty
      | top :: _ =>
        if top.source ≠ namedSource data then some .notTop
        else if top.source = compoundId ∧ top.announced = false then some .notAnnounced
        else none := by
  simp only [specificRefusal, sourceFieldFault_iff] <;> rfl

/-- A set holds against its Release while a source of its binding is busy (R146). -/
theorem stillBound_iff (s : State) (k : SetId) : s.stillBound k = true ↔
    ∃ i : SourceId, ((s.src i).state = .pending ∨ (s.src i).state = .serving ∨ (s.src i).state = .absorbed)
      ∧ i ∈ (s.set k).binding.getD [] := by
  unfold State.stillBound
  cases (s.set k).binding with
  | none => simp
  | some b => simp [busy_iff, and_comm]

/-- The checks of RELEASE (R145). -/
theorem specificRefusal_release (s : State) (data : Word) : specificRefusal s .release data =
    if data = 0 ∨ 7 < data.toNat then some .field
    else if s.stillBound (setOf data.toNat) then some .stillBound
    else none := by
  have hcode : (!(decide (1 ≤ data.toNat) && decide (data.toNat ≤ 7))) = true ↔ data = 0 ∨ 7 < data.toNat := by
    simp only [Bool.not_eq_true', Bool.and_eq_false_iff, decide_eq_false_iff_not]
    bv_omega
  simp only [specificRefusal, hcode]

/-- A channel field is 3 (R139). -/
theorem hasIllegalField_iff (data : Word) :
    hasIllegalField data = true ↔ ∃ c : Fin 8, data.extractLsb' (2 * c.val) 2 = 3 := by
  simp only [hasIllegalField, List.any_eq_true, List.mem_range, beq_iff_eq]
  exact ⟨fun ⟨c, hc, h⟩ => ⟨⟨c, hc⟩, h⟩, fun ⟨c, h⟩ => ⟨c, c.isLt, h⟩⟩

/-- The checks of a reaction-set word (R139). -/
theorem specificRefusal_react (s : State) (k : SetId) (wordB : Bool) (data : Word) :
    specificRefusal s (.react k wordB) data =
      if ∃ c : Fin 8, data.extractLsb' (2 * c.val) 2 = 3 then some .field
      else if (s.set k).binding ≠ none then some .stillBound
      else none := by
  simp only [specificRefusal, hasIllegalField_iff, ReactionSet.active, Option.isSome_iff_ne_none]

/-- The fixed class of the internal sources by the table of chapter 4 (R31, R77). -/
theorem fixedClass_iff {i : SourceId} (hi : 24 ≤ i.val) (c : BitVec 2) : ((fixedClass i).all fun d => c == d) = true ↔
    (i ≠ hostraiseId → c = if i = compoundId then 3 else if i = silenceId then 2
      else if i = overrunId ∨ i = mismatchId then 1 else 0) := by
  revert hi
  revert i c
  decide

theorem keepsFixed_iff {i : SourceId} (hi : 24 ≤ i.val) (data : Word) : keepsFixed i data = true ↔
    data.extractLsb' 8 8 = BitVec.ofNat 8 (0xF8 + (i.val - 24)) ∧ data.extractLsb' 0 3 = 0
      ∧ (i ≠ hostraiseId → data.extractLsb' 3 2 = if i = compoundId then 3 else if i = silenceId then 2
          else if i = overrunId ∨ i = mismatchId then 1 else 0) := by
  simp only [keepsFixed, Bool.and_eq_true, beq_iff_eq, and_assoc, fixedClass_iff hi]

/-- The checks of a descriptor word (R31). -/
theorem specificRefusal_desc (s : State) (i : SourceId) (w : Fin 4) (data : Word) :
    specificRefusal s (.desc i w) data =
      if (s.src i).state ≠ .disarmed ∧ i ≠ compoundId ∧ i ≠ overrunId then some .armed
      else if 24 ≤ i.val ∧ w = 0 ∧ ¬(data.extractLsb' 8 8 = BitVec.ofNat 8 (0xF8 + (i.val - 24))
          ∧ data.extractLsb' 0 3 = 0
          ∧ (i ≠ hostraiseId → data.extractLsb' 3 2 =
              if i = compoundId then 3 else if i = silenceId then 2
              else if i = overrunId ∨ i = mismatchId then 1 else 0)) then some .fixedField
      else if w = 1 ∧ data.extractLsb' 0 4 ≠ 0 then some .field
      else if i = compoundId ∨ i = overrunId then
        (armFault i (writeDescriptor i w data (s.src i))).map .invalidDescriptor
      else none := by
  have hspecial : (i == compoundId || i == overrunId) = true ↔ i = compoundId ∨ i = overrunId := by simp
  have harmed : ((s.src i).armed && !(i == compoundId || i == overrunId)) = true ↔
      (s.src i).state ≠ .disarmed ∧ i ≠ compoundId ∧ i ≠ overrunId := by
    simp [armed_iff]
  have hfixed : (!isExternal i && w == 0 && !keepsFixed i data) = true ↔
      24 ≤ i.val ∧ w = 0 ∧ ¬(data.extractLsb' 8 8 = BitVec.ofNat 8 (0xF8 + (i.val - 24))
          ∧ data.extractLsb' 0 3 = 0
          ∧ (i ≠ hostraiseId → data.extractLsb' 3 2 =
              if i = compoundId then 3 else if i = silenceId then 2
              else if i = overrunId ∨ i = mismatchId then 1 else 0)) := by
    by_cases hi : 24 ≤ i.val
    · simp only [isExternal, ← keepsFixed_iff hi, hi, show ¬i.val < 24 by omega, decide_false, Bool.not_false,
        Bool.true_and, Bool.and_eq_true, beq_iff_eq, Bool.not_eq_true', true_and, Bool.not_eq_true]
    · simp [isExternal, hi, show i.val < 24 by omega]
  simp only [specificRefusal, descriptorRefusal, hspecial, harmed, hfixed, Bool.and_eq_true, beq_iff_eq, bne_iff_ne]
  cases armFault i (writeDescriptor i w data (s.src i)) <;> rfl

/-! ## Arm validation -/

/-- A chain of checks answers the number of the first that fails, counted from `n` (R71). -/
theorem firstFault_cons (n : Nat) (b : Bool) {l : List Bool} {rest : Option (BitVec 4)}
    (h : rest = (l.findIdx? id).map fun m => BitVec.ofNat 4 (m + (n + 1) + 1)) :
    (if b then some (BitVec.ofNat 4 (n + 1)) else rest) =
      ((b :: l).findIdx? id).map fun m => BitVec.ofNat 4 (m + n + 1) := by
  cases b with
  | true => simp [List.findIdx?_cons]
  | false =>
    rw [h, List.findIdx?_cons]
    cases l.findIdx? id with
    | none => rfl
    | some m =>
      show some (BitVec.ofNat 4 (m + (n + 1) + 1)) = some (BitVec.ofNat 4 (m + 1 + n + 1))
      rw [show m + (n + 1) + 1 = m + 1 + n + 1 by omega]

theorem classOf_eq (c : BitVec 2) : (classOf c = .notice ↔ c.toNat = 0) ∧ (classOf c = .critical ↔ c.toNat = 2)
    ∧ (classOf c = .compound ↔ c.toNat = 3) := by
  revert c
  decide

theorem triggerOf_eq (t : BitVec 3) : (triggerOf t = .unusable ↔ 5 ≤ t.toNat)
    ∧ (triggerOf t = .levelHigh ∨ triggerOf t = .levelLow ↔ t.toNat ≤ 1) := by
  revert t
  decide

theorem reactWhenOf_eq (c : BitVec 2) : (reactWhenOf c = .never ↔ c.toNat = 0) ∧ (reactWhenOf c = .atDeadline ↔ c.toNat = 2)
    ∧ (reactWhenOf c = .unusable ↔ c.toNat = 3) := by
  revert c
  decide

/-- The ten checks of Arm validation, each in the words of its row (R71). -/
def armChecks (i : SourceId) (x : Source) : List Bool :=
  [isExternal i && !(1 ≤ x.vector.toNat && x.vector.toNat ≤ 0xF7),
   i != compoundId && x.cls == .compound,
   x.trigger == .unusable,
   x.reactWhen == .unusable,
   (x.reactWhen == .never) != (x.reactionSet == 0),
   x.cls == .notice && x.reactWhen != .never,
   x.cls == .critical && (x.reactWhen == .atDeadline || x.selfMasks),
   x.reactWhen == .atDeadline && x.claimDeadline == 0,
   isExternal i && (x.trigger == .levelHigh || x.trigger == .levelLow) && x.repeats,
   i == staleId && x.claimDeadline != 0]

/-- The number of the first check that fails (R71). -/
theorem armFault_eq (i : SourceId) (x : Source) :
    armFault i x = ((armChecks i x).findIdx? id).map fun n => BitVec.ofNat 4 (n + 1) := by
  have h := firstFault_cons 0 (isExternal i && !(1 ≤ x.vector.toNat && x.vector.toNat ≤ 0xF7)) <|
    firstFault_cons 1 (i != compoundId && x.cls == .compound) <|
    firstFault_cons 2 (x.trigger == .unusable) <|
    firstFault_cons 3 (x.reactWhen == .unusable) <|
    firstFault_cons 4 ((x.reactWhen == .never) != (x.reactionSet == 0)) <|
    firstFault_cons 5 (x.cls == .notice && x.reactWhen != .never) <|
    firstFault_cons 6 (x.cls == .critical && (x.reactWhen == .atDeadline || x.selfMasks)) <|
    firstFault_cons 7 (x.reactWhen == .atDeadline && x.claimDeadline == 0) <|
    firstFault_cons 8 (isExternal i && (x.trigger == .levelHigh || x.trigger == .levelLow) && x.repeats) <|
    firstFault_cons 9 (i == staleId && x.claimDeadline != 0) (l := []) (rest := none) rfl
  exact h

theorem and_not_range {a b c : Prop} [Decidable a] [Decidable b] [Decidable c] :
    (decide a && !(decide b && decide c)) = true ↔ a ∧ ¬(b ∧ c) := by
  simp [imp_iff_not_or]

/-- The checks of `armChecks` read off the bits of the descriptor (R71). -/
theorem armChecks_eq (i : SourceId) (x : Source) : armChecks i x =
    [decide (i.val < 24 ∧ ¬(0x01 ≤ (x.w0.extractLsb' 8 8).toNat ∧ (x.w0.extractLsb' 8 8).toNat ≤ 0xF7)),
     decide (i ≠ compoundId ∧ (x.w0.extractLsb' 3 2).toNat = 3),
     decide (5 ≤ (x.w0.extractLsb' 0 3).toNat),
     decide ((x.w1.extractLsb' 7 2).toNat = 3),
     decide (¬((x.w1.extractLsb' 7 2).toNat = 0 ↔ (x.w1.extractLsb' 9 3).toNat = 0)),
     decide ((x.w0.extractLsb' 3 2).toNat = 0 ∧ (x.w1.extractLsb' 7 2).toNat ≠ 0),
     decide ((x.w0.extractLsb' 3 2).toNat = 2 ∧ ((x.w1.extractLsb' 7 2).toNat = 2 ∨ x.w1.getLsbD 4 = true)),
     decide ((x.w1.extractLsb' 7 2).toNat = 2 ∧ (x.w2.extractLsb' 8 8).toNat = 0),
     decide (i.val < 24 ∧ (x.w0.extractLsb' 0 3).toNat ≤ 1 ∧ x.w1.getLsbD 6 = true),
     decide (i = staleId ∧ (x.w2.extractLsb' 8 8).toNat ≠ 0)] := by
  obtain ⟨hnotice, hcritical, hcompound⟩ := classOf_eq (x.w0.extractLsb' 3 2)
  obtain ⟨hunusable, hlevel⟩ := triggerOf_eq (x.w0.extractLsb' 0 3)
  obtain ⟨hnever, hdeadline, hthree⟩ := reactWhenOf_eq (x.w1.extractLsb' 7 2)
  have hset : x.w1.extractLsb' 9 3 = 0 ↔ (x.w1.extractLsb' 9 3).toNat = 0 := by bv_omega
  simp only [armChecks, List.cons.injEq, and_true]
  refine ⟨?_, ?_, ?_, ?_, ?_, ?_, ?_, ?_, ?_, ?_⟩
  all_goals rw [Bool.eq_iff_iff, decide_eq_true_eq]
  · exact and_not_range
  · simp [Source.cls, Source.classBits, hcompound]
  · simp [Source.trigger, hunusable]
  · simp [Source.reactWhen, hthree]
  · rw [bne_iff_ne, ne_eq, Bool.eq_iff_iff, beq_iff_eq, beq_iff_eq]
    exact not_congr (iff_congr hnever hset)
  · simp [Source.cls, Source.classBits, Source.reactWhen, hnotice, hnever]
  · simp [Source.cls, Source.classBits, Source.reactWhen, Source.selfMasks, hcritical, hdeadline]
  · simp [Source.reactWhen, Source.claimDeadline, hdeadline]
  · simp [isExternal, Source.trigger, Source.repeats, hlevel, and_assoc]
  · simp [Source.claimDeadline]

/-! ## The refusals -/
/-- Settles O19: the tiers of `writeRefusal`, each register's table, and the chain of Arm validation. -/
theorem refusalsOnlyLeaveTheirReason : Obligations.RefusalsOnlyLeaveTheirReason := by
  unfold Obligations.RefusalsOnlyLeaveTheirReason
  refine ⟨?refused, ?claim, ?tables, ?armFault⟩
  case refused =>
    intro s c dest index data tag r reason hi hh hf hr ha hb hw
    rw [exec_of_frameOf hf]
    exact congrArg Host.Outcome.next (sendRequest_write_refused tag hi hh hb hr ha hw)
  case claim =>
    intro s data tag hi hid hm
    refine congrArg Host.Outcome.next ?_
    unfold State.refusedAs
    refine sendRequest_read (reg := .claim) (reply := ⟨.refused, reasonCode .mode ++ 0x10⟩) tag hi (hears_own hid) rfl
      rfl nofun ?_ rfl
    have hl : ((begin (s.heard (.directed s.mc.nodeId))).map endHold).st.mc.mode = .lockdown := by
      rw [heard_eq]
      exact hm
    show executeClaim 0x10 _ = _
    rw [executeClaim, if_pos hl]
    rfl
  case tables =>
    intro s r data ha
    refine ⟨(refused_mode_iff s r data).trans (modeRefuses_iff s.mc.mode r data), ?_, fun hm hs => ?_⟩
    · rw [refused_sealed_iff, sealProtected_iff]
    have hx := writeRefusal_of_passed hm hs
    dsimp only
    rw [hx]
    refine ⟨?_, ?_, ?_, ?_, ?_, ?_, ?_, ?_, ?_, ?_, ?_, ?_, ?_, ?_⟩
    · rintro rfl
      exact specificRefusal_action s data
    · rintro rfl
      rfl
    · rintro rfl
      simp only [specificRefusal, Bool.or_eq_true, bne_iff_ne, beq_iff_eq]
      split_ifs <;> simp_all
    · rintro rfl
      simp [specificRefusal]
    · rintro rfl
      simp [specificRefusal]
    · rintro rfl
      have hmask : ~~~filterBits = 0xFC71#16 := by decide
      simp [specificRefusal, hmask]
    · rintro rfl
      exact specificRefusal_arm s data
    · rintro rfl
      exact specificRefusal_disarm s data
    · rintro rfl
      exact specificRefusal_complete s data
    · rintro rfl
      simp only [specificRefusal, armed_iff, ne_eq, ite_not]
    · rintro rfl
      rw [specificRefusal_release]
      simp only [stillBound_iff]
    · rintro k wordB rfl
      exact specificRefusal_react s k wordB data
    · rintro i w rfl
      have hw : writeDescriptor i w data (s.src i) =
          if w = 0 then { s.src i with w0 := data } else if w = 1 then { s.src i with w1 := storedW1 i data }
          else { s.src i with w2 := data } := by
        have h3 : w ≠ 3 := fun h => ha (by rw [h]; rfl)
        rcases below_three w h3 with rfl | rfl | rfl <;> rfl
      rw [specificRefusal_desc, hw]
    · intro hmem
      simp only [List.mem_cons, List.not_mem_nil, or_false] at hmem
      rcases hmem with rfl | rfl | rfl | rfl | rfl | rfl | rfl <;> rfl
  case armFault =>
    intro i x
    dsimp only
    rw [armFault_eq, armChecks_eq]

end Sys2Proof.Machine
end

section
/-! PROOFS. Descriptors, reaction-set words, arming and disarming (O25 to O28). -/

namespace Sys2Proof.Machine

-- one proof after another: each thread that elaborates costs the check a GiB of its memory limit
set_option Elab.async false

theorem writeRefusal_unsealed {s : State} {r : Reg} {data : Word} (hm : modeRefuses s.mc.mode r data = false)
    (hs : s.regs.sealed = false) : writeRefusal s r data = specificRefusal s r data :=
  writeRefusal_specific hm fun h => by rw [hs] at h; cases h

/-! ## The indices of the descriptor and reaction-set blocks -/

theorem regAt_descIndex : ∀ (source : BitVec 5) (word : BitVec 2),
    regAt (descIndex source word) = some (.desc (sourceOf source) word.toFin) := by decide

theorem regAt_reactIndex : ∀ (set : BitVec 3) (wordB : Bool), set ≠ 0 →
    regAt (reactIndex set wordB) = some (.react (setOf set.toNat) wordB) := by decide

theorem toFin_eq : ∀ word : BitVec 2, word ≠ 3 → word.toFin ≠ 3 ∧ (word = 0 → word.toFin = 0) ∧ (word = 1 → word.toFin = 1)
    ∧ (word ≠ 0 → word ≠ 1 → word.toFin = 2) := by decide

theorem toFin_eq_zero : ∀ word : BitVec 2, word.toFin = 0 ↔ word = 0 := by decide

theorem toFin_eq_one : ∀ word : BitVec 2, word.toFin = 1 ↔ word = 1 := by decide

/-! ## What a heard frame leaves -/

/-- Two effects that agree on the state of the heard frame leave the same. -/
theorem after_congr {s : State} {dest : Dest} {f g : State → State} (h : f (s.heard dest) = g (s.heard dest))
    (outcome : FrameOutcome) (tag : BitVec 4) (data : Word) :
    s.after dest outcome tag data f = s.after dest outcome tag data g := by
  rw [State.after, State.after, h]

@[simp] theorem src_heard (s : State) (dest : Dest) (i : SourceId) : (s.heard dest).src i = s.src i := by
  rw [heard_eq]
  rfl

@[simp] theorem set_heard (s : State) (dest : Dest) (k : SetId) : (s.heard dest).set k = s.set k := by
  rw [heard_eq]
  rfl

@[simp] theorem mc_heard (s : State) (dest : Dest) : (s.heard dest).mc = s.mc := by rw [heard_eq]
@[simp] theorem svc_heard (s : State) (dest : Dest) : (s.heard dest).svc = s.svc := by rw [heard_eq]
@[simp] theorem arb_heard (s : State) (dest : Dest) : (s.heard dest).arb = s.arb := by rw [heard_eq]
@[simp] theorem act_heard (s : State) (dest : Dest) : (s.heard dest).act = s.act := by rw [heard_eq]
@[simp] theorem tc_heard (s : State) (dest : Dest) : (s.heard dest).tc = s.tc := by rw [heard_eq]
@[simp] theorem regs_heard (s : State) (dest : Dest) : (s.heard dest).regs = s.regs := by rw [heard_eq]
@[simp] theorem srcs_heard (s : State) (dest : Dest) : (s.heard dest).srcs = s.srcs := by rw [heard_eq]

/-! ## Descriptor writes -/

theorem access_desc {w : Fin 4} (h : w ≠ 3) (i : SourceId) : (Reg.desc i w).access = .readWrite := if_neg h

theorem storedW1_of_ne {i : SourceId} (h : i ≠ compoundId) (data : Word) : storedW1 i data = data := if_neg h

/-- The word that a descriptor write stores, by its place (R67, R70). -/
theorem writeDescriptor_eq (i : SourceId) {word : BitVec 2} (h : word ≠ 3) (data : Word) (x : Source) :
    writeDescriptor i word.toFin data x =
      if word = 0 then { x with w0 := data } else if word = 1 then { x with w1 := storedW1 i data }
      else { x with w2 := data } := by
  obtain ⟨-, h0, h1, h2⟩ := toFin_eq word h
  by_cases e0 : word = 0
  · rw [if_pos e0, h0 e0]
    rfl
  by_cases e1 : word = 1
  · rw [if_neg e0, if_pos e1, h1 e1]
    rfl
  · rw [if_neg e0, if_neg e1, h2 e0 e1]
    rfl

/-- The word that a descriptor write reports is the one it stores (R27, R67). -/
theorem readReg_writeDescriptor (s : State) (i : SourceId) {word : BitVec 2} (h : word ≠ 3) (data : Word) :
    readReg (putReg (.desc i word.toFin) data s) (.desc i word.toFin) = if word = 1 then storedW1 i data else data := by
  obtain ⟨-, h0, h1, h2⟩ := toFin_eq word h
  by_cases e1 : word = 1
  · rw [if_pos e1, h1 e1]
    exact congrArg Source.w1 (src_setSrc_self s i _)
  rw [if_neg e1]
  by_cases e0 : word = 0
  · rw [h0 e0]
    exact congrArg Source.w0 (src_setSrc_self s i _)
  · rw [h2 e0 e1]
    exact congrArg Source.w2 (src_setSrc_self s i _)

/-- An accepted descriptor write (R27, R31). -/
theorem exec_descriptorWrite {s : State} {dest : Dest} {source : BitVec 5} {word : BitVec 2} {data : Word}
    (tag : BitVec 4) (hi : s.linkIdle) (hh : s.hears dest = true) (hb : s.brokenFor dest (descIndex source word) = false)
    (hword : word ≠ 3) (hw : writeRefusal s (.desc (sourceOf source) word.toFin) data = none) :
    exec (.descriptorWrite dest source word data tag) s = .next
      (s.after dest .done tag (if word = 1 then storedW1 (sourceOf source) data else data) fun x =>
        x.setSrc (sourceOf source)
          (if word = 0 then { s.src (sourceOf source) with w0 := data }
           else if word = 1 then { s.src (sourceOf source) with w1 := storedW1 (sourceOf source) data }
           else { s.src (sourceOf source) with w2 := data })) := by
  refine congrArg Host.Outcome.next ?_
  rw [sendRequest_write_value tag hi hh hb (regAt_descIndex source word) (access_desc (toFin_eq word hword).1 _) hw,
    readReg_writeDescriptor s _ hword]
  refine after_congr ?_ _ _ _
  show (s.heard dest).setSrc _ _ = _
  rw [writeDescriptor_eq _ hword, src_heard]

/-- Settles O25: the checks of a Disarmed source's descriptor word, and the word as written. -/
theorem descriptorWriteStoresTheWord : Obligations.DescriptorWriteStoresTheWord := by
  unfold Obligations.DescriptorWriteStoresTheWord
  dsimp only
  intro s dest source word data tag hi hh hb hm hs hc ho ha hword hfixed hlow
  have hmode : modeRefuses s.mc.mode (.desc (sourceOf source) word.toFin) data = false := by
    simp [modeRefuses, hc, ho, hm]
  have hstate : (s.src (sourceOf source)).state = .disarmed := by simpa [Source.armed] using ha
  have hw : writeRefusal s (.desc (sourceOf source) word.toFin) data = none := by
    rw [writeRefusal_unsealed hmode hs, specificRefusal_desc, if_neg fun h => h.1 hstate, if_neg, if_neg, if_neg fun h => h.elim hc ho]
    · rintro ⟨h, hd⟩
      exact hd (hlow ((toFin_eq_one word).mp h))
    · rintro ⟨h24, h, hd⟩
      obtain ⟨hv, ht, hk⟩ := hfixed h24 ((toFin_eq_zero word).mp h)
      refine hd ⟨hv, ht, fun hr => ?_⟩
      rw [hk hr, if_neg hc]
      by_cases hsil : sourceOf source = silenceId
      · simp [hsil, silenceId, mismatchId]
      · simp [hsil, ho]
  rw [exec_descriptorWrite tag hi hh hb hword hw, storedW1_of_ne hc, ite_self]

/-- COMPOUND's descriptor never fails Arm validation: its class, trigger and react-when are fixed (R67, R71). -/
theorem armFault_compound {x : Source} (h0 : keepsFixed compoundId x.w0 = true)
    (h1 : x.w1.extractLsb' 7 2 = if x.w1.extractLsb' 9 3 = 0 then 0#2 else 1#2) : armFault compoundId x = none := by
  obtain ⟨-, htrigger, hclass⟩ := (keepsFixed_iff (by decide) x.w0).mp h0
  have hcls : x.cls = .compound := by
    have h := hclass (by decide)
    rw [if_pos rfl] at h
    rw [Source.cls, Source.classBits, h]
    rfl
  have htrig : x.trigger = .levelHigh := by
    rw [Source.trigger, htrigger]
    rfl
  have hreact : (x.reactWhen = .never ∧ x.reactionSet = 0) ∨ (x.reactWhen = .atLatch ∧ x.reactionSet ≠ 0) := by
    rw [Source.reactWhen, Source.reactionSet, h1]
    by_cases hz : x.w1.extractLsb' 9 3 = 0
    · exact .inl ⟨by rw [if_pos hz]; rfl, hz⟩
    · exact .inr ⟨by rw [if_neg hz]; rfl, hz⟩
  have hext : isExternal compoundId = false := by decide
  have hstale : (compoundId == staleId) = false := by decide
  rcases hreact with ⟨hr, hz⟩ | ⟨hr, hz⟩
  · simp [armFault, hcls, htrig, hr, hz, hext, hstale]
  · have hne : (x.reactionSet == 0) = false := beq_eq_false_iff_ne.mpr hz
    simp only [armFault, hcls, htrig, hr, hne, hext, hstale]
    rfl

/-- COMPOUND's descriptor with a word written has its fixed fields, and the react-when that its set implies (R31, R67). -/
theorem armFault_compound_written {x : Source} (h0 : keepsFixed compoundId x.w0 = true)
    (h1 : x.w1.extractLsb' 7 2 = if x.w1.extractLsb' 9 3 = 0 then 0#2 else 1#2) {w : Fin 4} {data : Word}
    (hd : w = 0 → keepsFixed compoundId data = true) : armFault compoundId (writeDescriptor compoundId w data x) = none := by
  obtain ⟨hreact, hset, -⟩ := storedW1_reactWhen data
  match w with
  | 0 => exact armFault_compound (x := { x with w0 := data }) (hd rfl) h1
  | 1 => exact armFault_compound (x := { x with w1 := storedW1 compoundId data }) h0 (by rw [hset, hreact])
  | 2 => exact armFault_compound (x := { x with w2 := data }) h0 h1
  | 3 => exact armFault_compound (x := x) h0 h1

/-- Settles O26: the checks of the two armed descriptors, of which only OVERRUN's can fail. -/
theorem alwaysArmedDescriptorsAreValidated : Obligations.AlwaysArmedDescriptorsAreValidated := by
  unfold Obligations.AlwaysArmedDescriptorsAreValidated
  dsimp only
  intro s dest source word data tag hl hi hh hb hm hs hid hword hfixed hlow
  obtain ⟨-, h0, h1, h2⟩ := toFin_eq word hword
  have hstored : (if sourceOf source = compoundId ∧ word = 1 then
      data.extractLsb' 9 7 ++ (if data.extractLsb' 9 3 = 0 then 0#2 else 1#2) ++ data.extractLsb' 0 7 else data) =
      if word = 1 then storedW1 (sourceOf source) data else data := by
    by_cases e1 : word = 1
    · simp only [e1, and_true, if_true, storedW1]
    · rw [if_neg fun h => e1 h.2, if_neg e1]
  have hx : (if word = 0 then { s.src (sourceOf source) with w0 := if word = 1 then storedW1 (sourceOf source) data else data }
      else if word = 1 then
        { s.src (sourceOf source) with w1 := if word = 1 then storedW1 (sourceOf source) data else data }
      else { s.src (sourceOf source) with w2 := if word = 1 then storedW1 (sourceOf source) data else data }) =
      writeDescriptor (sourceOf source) word.toFin data (s.src (sourceOf source)) := by
    rw [writeDescriptor_eq _ hword]
    by_cases e0 : word = 0
    · subst e0
      rfl
    by_cases e1 : word = 1
    · rw [if_neg e0, if_neg e0, if_pos e1, if_pos e1, if_pos e1]
    · rw [if_neg e0, if_neg e0, if_neg e1, if_neg e1, if_neg e1]
  rw [hstored, hx]
  have hmode : modeRefuses s.mc.mode (.desc (sourceOf source) word.toFin) data = false := by
    simp [modeRefuses, hid, hm]
  have hrefusal : writeRefusal s (.desc (sourceOf source) word.toFin) data =
      (armFault (sourceOf source) (writeDescriptor (sourceOf source) word.toFin data (s.src (sourceOf source)))).map
        .invalidDescriptor := by
    rw [writeRefusal_unsealed hmode hs, specificRefusal_desc,
      if_neg fun h => hid.elim h.2.1 h.2.2, if_neg, if_neg, if_pos hid]
    · rintro ⟨h, hd⟩
      exact hd (hlow ((toFin_eq_one word).mp h))
    · rintro ⟨h24, h, hd⟩
      exact hd ((keepsFixed_iff h24 data).mp (hfixed ((toFin_eq_zero word).mp h)))
  refine ⟨fun hf => ?_, fun n hf => ⟨?_, ?_⟩⟩
  · rw [hf] at hrefusal
    rw [exec_descriptorWrite tag hi hh hb hword hrefusal, writeDescriptor_eq _ hword]
  · refine hid.resolve_left fun hc => ?_
    rw [hc] at hf hfixed
    rw [armFault_compound_written (hl.fields.internal compoundId (by decide)) hl.fields.compound
      fun h => hfixed ((toFin_eq_zero word).mp h)] at hf
    cases hf
  · rw [hf] at hrefusal
    exact congrArg Host.Outcome.next (sendRequest_write_refused tag hi hh hb (regAt_descIndex source word)
      (by rw [access_desc (toFin_eq word hword).1]; decide) hrefusal)

/-! ## Reaction-set words -/

/-- Settles O27. -/
theorem reactionSetWriteStoresTheWord : Obligations.ReactionSetWriteStoresTheWord := by
  unfold Obligations.ReactionSetWriteStoresTheWord
  dsimp only
  intro s dest set wordB data tag hi hh hb hm hs hset hfields hbound
  have hmode : modeRefuses s.mc.mode (.react (setOf set.toNat) wordB) data = false := by
    simpa [modeRefuses] using hm
  have hw : writeRefusal s (.react (setOf set.toNat) wordB) data = none := by
    rw [writeRefusal_unsealed hmode hs, specificRefusal_react,
      if_neg fun ⟨c, h⟩ => hfields c.val c.isLt h, if_neg fun h => h hbound]
  refine congrArg Host.Outcome.next ?_
  rw [sendRequest_write_value tag hi hh hb (regAt_reactIndex set wordB hset) rfl hw]
  have hv : readReg (putReg (.react (setOf set.toNat) wordB) data s) (.react (setOf set.toNat) wordB) = data := by
    cases wordB with
    | false => exact congrArg ReactionSet.wordA (set_putSet_self s _ _)
    | true => exact congrArg ReactionSet.wordB (set_putSet_self s _ _)
  rw [hv]
  refine after_congr ?_ _ _ _
  show (s.heard dest).putSet _ (if wordB then { (s.heard dest).set _ with wordB := data }
    else { (s.heard dest).set _ with wordA := data }) = _
  rw [set_heard]

/-! ## Arming and disarming -/

theorem namedSource_sourceBits (i : SourceId) : namedSource ((sourceBits i).zeroExtend 16) = i := by
  revert i
  decide

theorem sourceBits_high (i : SourceId) : ((sourceBits i).zeroExtend 16 : Word).extractLsb' 5 11 = 0 := by
  revert i
  decide

theorem armSource_endHold (i : SourceId) (s : State) : armSource i (endHold s) = endHold (armSource i s) := by
  unfold armSource
  rw [apply_ite endHold]
  rfl

theorem disarmSource_endHold (i : SourceId) (s : State) : disarmSource i (endHold s) = endHold (disarmSource i s) := by
  unfold disarmSource
  rw [apply_ite endHold]
  rfl

/-- An accepted Arm (R72). -/
theorem exec_arm {s : State} {dest : Dest} {i : SourceId} (tag : BitVec 4) (hi : s.linkIdle) (hh : s.hears dest = true)
    (hb : s.brokenFor dest 0x0C = false) (hw : writeRefusal s .arm ((sourceBits i).zeroExtend 16) = none) :
    exec (.arm dest ((sourceBits i).zeroExtend 16) tag) s = .next (s.after dest .done tag 0 (armSource i)) := by
  refine congrArg Host.Outcome.next (sendRequest_write_accepted (reg := .arm) (reply := ⟨.done, 0⟩) tag hi hh hb rfl
    (by decide) hw ?_ ?_ (by decide))
  · rw [performWrite, namedSource_sourceBits]
    rfl
  · exact armSource_endHold i _

/-- An accepted Disarm (R73). -/
theorem exec_disarm {s : State} {dest : Dest} {i : SourceId} (tag : BitVec 4) (hi : s.linkIdle) (hh : s.hears dest = true)
    (hb : s.brokenFor dest 0x0D = false) (hw : writeRefusal s .disarm ((sourceBits i).zeroExtend 16) = none) :
    exec (.disarm dest ((sourceBits i).zeroExtend 16) tag) s = .next (s.after dest .done tag 0 (disarmSource i)) := by
  refine congrArg Host.Outcome.next (sendRequest_write_accepted (reg := .disarm) (reply := ⟨.done, 0⟩) tag hi hh hb rfl
    (by decide) hw ?_ ?_ (by decide))
  · rw [performWrite, namedSource_sourceBits]
    rfl
  · exact disarmSource_endHold i _

/-- Settles O28: the checks of ARM and DISARM, and the one source that each changes. -/
theorem armAndDisarmSources : Obligations.ArmAndDisarmSources := by
  unfold Obligations.ArmAndDisarmSources
  dsimp only
  intro s dest i tag hi hh hm
  have hmode (r : Reg) (h : ∀ m data, modeRefuses m r data = (m == .lockdown)) (data : Word) :
      modeRefuses s.mc.mode r data = false := by
    rw [h]
    simpa using hm
  constructor
  · intro hb
    have hw : writeRefusal s .arm ((sourceBits i).zeroExtend 16) =
        if (s.src i).state ≠ .disarmed then none else (armFault i (s.src i)).map .invalidDescriptor := by
      rw [writeRefusal_specific (hmode .arm (fun _ _ => rfl) _) (fun _ => rfl), specificRefusal_arm,
        if_neg (not_not_intro (sourceBits_high i)), namedSource_sourceBits]
    refine ⟨fun ha => ?_, fun hd hf => ?_⟩
    · rw [exec_arm tag hi hh hb (hw.trans (if_pos ha))]
      refine congrArg Host.Outcome.next (after_congr ?_ _ _ _)
      rw [armSource, src_heard, if_pos ((armed_iff _).mpr ha)]
      rfl
    · rw [exec_arm tag hi hh hb (hw.trans ((if_neg (not_not_intro hd)).trans (by rw [hf]; rfl)))]
      refine congrArg Host.Outcome.next (after_congr ?_ _ _ _)
      rw [armSource, src_heard, if_neg fun h => (armed_iff _).mp h hd]
      rfl
  · intro hb hs hc ho
    have hw (hq : (s.src i).state = .disarmed ∨ (s.src i).state = .quiet) :
        writeRefusal s .disarm ((sourceBits i).zeroExtend 16) = none := by
      rw [writeRefusal_unsealed (hmode .disarm (fun _ _ => rfl) _) hs, specificRefusal_disarm,
        if_neg (not_not_intro (sourceBits_high i)), namedSource_sourceBits, if_neg (not_or.mpr ⟨hc, ho⟩), if_neg]
      rcases hq with h | h <;> simp [h]
    refine ⟨fun hd => ?_, fun hq => ?_⟩
    · rw [exec_disarm tag hi hh hb (hw (.inl hd))]
      refine congrArg Host.Outcome.next (after_congr ?_ _ _ _)
      rw [disarmSource, src_heard, if_neg fun h => (armed_iff _).mp h hd]
      rfl
    · rw [exec_disarm tag hi hh hb (hw (.inr hq))]
      refine congrArg Host.Outcome.next (after_congr ?_ _ _ _)
      rw [disarmSource, src_heard, if_pos ((armed_iff _).mpr (by rw [hq]; decide))]
      rfl

end Sys2Proof.Machine
end

section
/-! PROOFS. Actions that are one update and its records (O41, O42), and Release (O29). -/

namespace Sys2Proof.Machine

-- one proof after another: each thread that elaborates costs the check a GiB of its memory limit
set_option Elab.async false

/-! ## Records that call for no occurrence -/

/-- A record lost in a happening that did not begin in Running calls for no JOURNAL occurrence (R156). -/
theorem loseRecord_of_not_started {w : Work} (h : w.startedRunning = false) :
    loseRecord w = w.map fun s => { s with jn := { s.jn with
      lost := if s.jn.lost = 255 then 255 else s.jn.lost + 1 } } := by
  rcases w with ⟨s, b, d⟩
  obtain rfl : b = false := h
  simp only [loseRecord, satInc_byte, Bool.and_false, Bool.false_and, Bool.false_eq_true, if_false]
  rfl

/-- A record in a happening that did not begin in Running is written as `wrote` says (R155, R156). -/
theorem writeRecord_of_not_started (k : RecordKind) (source : Option SourceId) (detail : Word) {w : Work}
    (h : w.startedRunning = false) : writeRecord k source detail w = w.map fun s => s.wrote k source detail := by
  have hl (l : List Words4) : (w.map (setUnread l)).startedRunning = false := h
  unfold writeRecord joinJournal
  simp only [loseRecord_of_not_started h, loseRecord_of_not_started (hl _)]
  simp only [State.wrote, Work.map]
  split
  · split
    · rfl
    split
    · rfl
    split <;> rfl
  · rfl

/-- A record while the journal is calm (R155, R156). -/
theorem writeRecord_calm_map (k : RecordKind) (source : Option SourceId) (detail : Word) {w : Work} {f : State → State}
    (h : (f w.st).calm 1) : writeRecord k source detail (w.map f) = w.map fun s => (f s).wrote k source detail :=
  writeRecord_calm k source detail (w.map f) h

theorem wrote_mc (s : State) (k : RecordKind) (source : Option SourceId) (detail : Word) :
    (s.wrote k source detail).mc = s.mc := by
  unfold State.wrote
  dsimp only
  split
  · split <;> rfl
  · rfl

/-! ## Entry to Lockdown -/

/-- An entry to Lockdown writes its two records as `lockedBy` says, since the happening is abandoned (R94, R124). -/
theorem enterLockdown_lockedBy (cause : BitVec 4) (source : Option SourceId) (second : BitVec 5) (w : Work) :
    enterLockdown cause source second w = w.map fun s => s.lockedBy cause source second := by
  unfold enterLockdown writeModeRecord
  dsimp only
  rw [writeRecord_of_not_live (k := .lockdown) (w := w.map _) _ _ rfl, map_st, map_st, wrote_mc,
    writeRecord_of_not_live (k := .mode)]
  · rfl
  · rw [Work.live, map_st, map_st, wrote_mc]
    rfl

theorem lockedBy_endHold (cause : BitVec 4) (source : Option SourceId) (second : BitVec 5) (s : State) :
    (endHold s).lockedBy cause source second = endHold (s.lockedBy cause source second) := by
  unfold State.lockedBy
  dsimp only
  rw [← wrote_endHold, ← wrote_endHold]
  rfl

theorem writeRefusal_forceLockdown (s : State) : writeRefusal s .action 5 = none := by
  simp [writeRefusal, modeRefuses, sealProtected, specificRefusal]

/-- Settles O41. -/
theorem forceLockdownEntersOnce : Obligations.ForceLockdownEntersOnce := by
  unfold Obligations.ForceLockdownEntersOnce
  refine fun s dest tag hi hh hb => ⟨fun hm => ?_, fun hm => ?_⟩
  · refine congrArg Host.Outcome.next (sendAction_accepted tag hi hh hb (writeRefusal_forceLockdown s) ?_
      (lockedBy_endHold 6 none 0))
    have hw : ((begin (s.heard dest)).map endHold).st.mc.mode ≠ .lockdown := by
      rw [heard_eq]
      exact hm
    show doneZero (doForceLockdown _) = _
    rw [doForceLockdown, if_neg hw, enterLockdown_lockedBy]
    rfl
  · refine congrArg Host.Outcome.next (sendAction_accepted (f := id) tag hi hh hb (writeRefusal_forceLockdown s) ?_
      fun _ => rfl)
    have hw : ((begin (s.heard dest)).map endHold).st.mc.mode = .lockdown := by
      rw [heard_eq]
      exact hm
    show doneZero (doForceLockdown _) = _
    rw [doForceLockdown, if_pos hw]
    rfl

/-! ## Start and Stop -/

/-- What a Start changes, its Mode record apart (R42). -/
def startState (s : State) : State :=
  { s with
    mc := { s.mc with mode := .running }
    act := { s.act with mismatchSet := 0, counters := Vector.replicate 16 0 }
    dl := { s.dl with
      watchdog :=
        if (s.regs.silwin.extractLsb' 0 8).toNat = 0 then none
        else some ((s.regs.silwin.extractLsb' 0 8).toNat * 100) } }

/-- What a Stop changes, its Mode record apart (R43). -/
def stopState (s : State) : State :=
  { s with mc := { s.mc with mode := .configuring }, dl := { s.dl with watchdog := none } }

theorem startState_eq (s : State) : loadWatchdog (clearMismatch (setMode .running s)) = startState s := by
  unfold loadWatchdog startState
  rfl

theorem doStart_eq (w : Work) : doStart w = writeRecord .mode none 0x0001 (w.map startState) := by
  have hmode : (0#6 ++ modeCode .configuring ++ 0#6 ++ modeCode .running : Word) = 0x0001 := by decide
  have hs : (fun s => loadWatchdog (clearMismatch (setMode .running s))) = startState := funext startState_eq
  rw [doStart, writeModeRecord, hs, ← hmode]
  rfl

theorem doStop_eq (w : Work) : doStop w = writeRecord .mode none 0x0100 (w.map stopState) := by
  have hmode : (0#6 ++ modeCode .running ++ 0#6 ++ modeCode .configuring : Word) = 0x0100 := by decide
  rw [doStop, writeModeRecord, ← hmode]
  rfl

/-- The checks of a Start (R28, R30). -/
theorem writeRefusal_start (s : State) :
    writeRefusal s .action 1 = if s.mc.mode ≠ .configuring then some .mode else none := by
  cases hm : s.mc.mode <;> simp [writeRefusal, modeRefuses, sealProtected, specificRefusal, hm]

/-- The checks of a Stop (R28, R30). -/
theorem writeRefusal_stop (s : State) :
    writeRefusal s .action 2 =
      if s.mc.mode ≠ .running then some .mode
      else if ¬(s.arb.waiting = [] ∧ s.svc.stack = []) then some .engineBusy
      else none := by
  by_cases hm : s.mc.mode = .running
  · rw [if_neg (not_not_intro hm), writeRefusal_specific (by rw [hm]; decide) (fun _ => rfl), specificRefusal_action,
      if_neg (by decide)]
    simp [and_comm]
  · rw [if_pos hm, refused_mode_iff, modeRefuses_action]
    exact .inr (.inl ⟨rfl, hm⟩)

/-- Settles O42. -/
theorem startAndStopChangeTheMode : Obligations.StartAndStopChangeTheMode := by
  unfold Obligations.StartAndStopChangeTheMode
  refine fun s dest tag hi hh hb => ⟨fun hm => ?_, fun hm => ?_, fun hm ha hs => ?_, fun hm hn => ?_, fun hm => ?_⟩
  · refine congrArg Host.Outcome.next (sendAction_accepted
      (f := fun x => (startState x).wrote .mode none 0x0001) tag hi hh hb
      (by rw [writeRefusal_start, if_neg (not_not_intro hm)]) ?_
      fun x => (wrote_endHold .mode none 1 (startState x)))
    have hw : (begin (s.heard dest)).startedRunning = false := by
      show (_ == _) = _
      rw [mc_heard, hm]
      rfl
    show doneZero (doStart _) = _
    rw [doStart_eq, writeRecord_of_not_started (w := ((begin (s.heard dest)).map endHold).map startState) _ _ _ hw]
    rfl
  · exact congrArg Host.Outcome.next (sendAction_refused tag hi hh hb (by rw [writeRefusal_start, if_pos hm]))
  · refine congrArg Host.Outcome.next (sendAction_accepted
      (f := fun x => (stopState x).wrote .mode none 0x0100) tag hi hh hb
      (by rw [writeRefusal_stop, if_neg (not_not_intro hm), if_neg (not_not_intro ⟨ha, hs⟩)]) ?_
      fun x => (wrote_endHold .mode none 0x100 (stopState x)))
    show doneZero (doStop _) = _
    rw [doStop_eq, writeRecord_of_not_live _ _ _ rfl]
    rfl
  · exact congrArg Host.Outcome.next (sendAction_refused tag hi hh hb
      (by rw [writeRefusal_stop, if_neg (not_not_intro hm), if_pos hn]))
  · exact congrArg Host.Outcome.next (sendAction_refused tag hi hh hb (by rw [writeRefusal_stop, if_pos hm]))

/-! ## Release -/

/-- The channels of one word that a second one keeps, where the first has no mark outside a third. -/
theorem and_keep {level frozen keep : Word} (h : level &&& ~~~frozen = 0) :
    level &&& keep = level &&& ((frozen &&& keep) ||| ~~~frozen) := by
  apply BitVec.eq_of_getLsbD_eq
  intro i hi
  have hb := congrArg (fun x : Word => x.getLsbD i) h
  simp only [BitVec.getLsbD_and, BitVec.getLsbD_or, BitVec.getLsbD_not, hi, decide_true, Bool.true_and,
    BitVec.ofNat_eq_ofNat, BitVec.getLsbD_zero] at hb ⊢
  revert hb
  cases level.getLsbD i <;> cases frozen.getLsbD i <;> simp

/-- The effect of an accepted Release of an active set, in the words of R145. -/
theorem dropSet_eq {s : State} (h : s.FreezesLegal) (k : SetId) :
    dropSet k s =
      let y := s.putSet k { s.set k with binding := none }
      { y with act := { y.act with
          frozen := (dropSet k s).act.frozen
          frozenLevel := y.act.frozenLevel &&& ((dropSet k s).act.frozen ||| ~~~y.act.frozen) } } := by
  have hl := and_keep (keep := ~~~(s.set k).freezes ||| (s.putSet k { s.set k with binding := none }).stillFrozen)
    h.levels
  have hy : (s.putSet k { s.set k with binding := none }).act.frozenLevel &&&
      ((dropSet k s).act.frozen ||| ~~~(s.putSet k { s.set k with binding := none }).act.frozen)
        = (dropSet k s).act.frozenLevel := by
    rw [dropSet_frozen, dropSet_frozenLevel]
    exact hl.symm
  dsimp only
  rw [hy]
  rfl

theorem dropSet_endHold (k : SetId) (s : State) : dropSet k (endHold s) = endHold (dropSet k s) := rfl

/-- The checks of a Release (R145). -/
theorem writeRefusal_release (s : State) (data : Word) :
    writeRefusal s .release data =
      if s.mc.mode = .lockdown then some .mode
      else if ¬(1 ≤ data.toNat ∧ data.toNat ≤ 7) then some .field
      else if s.stillBound (setOf data.toNat) then some .stillBound
      else none := by
  have hfield : data = 0 ∨ 7 < data.toNat ↔ ¬(1 ≤ data.toNat ∧ data.toNat ≤ 7) := by bv_omega
  by_cases hm : s.mc.mode = .lockdown
  · rw [if_pos hm, refused_mode_iff, hm]
    rfl
  · rw [if_neg hm, writeRefusal_specific (by simpa [modeRefuses] using hm) (fun _ => rfl), specificRefusal_release]
    simp only [hfield]

/-- Settles O29. -/
theorem releaseDropsTheSet : Obligations.ReleaseDropsTheSet := by
  unfold Obligations.ReleaseDropsTheSet
  dsimp only
  refine fun s dest data tag hi hh hb => ⟨fun hm => ?_, fun hm hf => ?_, fun hm h1 h7 => ?_⟩
  · exact congrArg Host.Outcome.next (sendRequest_write_refused (reg := .release) tag hi hh hb rfl (by decide)
      (by rw [writeRefusal_release, if_pos hm]))
  · exact congrArg Host.Outcome.next (sendRequest_write_refused (reg := .release) tag hi hh hb rfl (by decide)
      (by rw [writeRefusal_release, if_neg hm, if_pos hf]))
  have hchecks : writeRefusal s .release data =
      if s.stillBound (setOf data.toNat) then some .stillBound else none := by
    rw [writeRefusal_release, if_neg hm, if_neg (not_not_intro ⟨h1, h7⟩)]
  refine ⟨fun b i hbind hib hbusy => ?_, fun hnone => ?_, fun b hbind hquiet hfreezes hcalm => ?_⟩
  · have hbound : s.stillBound (setOf data.toNat) = true :=
      (stillBound_iff s _).mpr ⟨i, hbusy, by rw [hbind]; exact hib⟩
    exact congrArg Host.Outcome.next (sendRequest_write_refused (reg := .release) tag hi hh hb rfl (by decide)
      (by rw [hchecks, if_pos hbound]))
  · have hbound : ¬s.stillBound (setOf data.toNat) = true := by
      rw [stillBound_iff]
      rintro ⟨i, -, hmem⟩
      rw [hnone] at hmem
      cases hmem
    refine congrArg Host.Outcome.next (sendRequest_write_accepted (reg := .release) (reply := ⟨.done, 0⟩) (f := id)
      tag hi hh hb rfl (by decide) (by rw [hchecks, if_neg hbound]) ?_ rfl (by decide))
    have hidle : (((begin (s.heard dest)).map endHold).st.set (setOf data.toNat)).active = false := by
      show ((s.heard dest).set _).active = false
      rw [set_heard, ReactionSet.active, hnone]
      rfl
    rw [performWrite, doRelease, hidle]
    rfl
  · have hbound : ¬s.stillBound (setOf data.toNat) = true := by
      rw [stillBound_iff]
      rintro ⟨i, hbusy, hmem⟩
      rw [hbind] at hmem
      rcases hquiet i hmem with h | h <;> rw [h] at hbusy <;> simp at hbusy
    refine ⟨(dropSet (setOf data.toNat) s).act.frozen, fun c => dropSet_frozen_getLsbD _ _ c, ?_⟩
    have hsent := sendRequest_write_accepted (reg := .release) (reply := ⟨.done, 0⟩)
      (f := fun x => (dropSet (setOf data.toNat) x).wrote .reactRelease none data)
      tag hi hh hb rfl (by decide) (by rw [hchecks, if_neg hbound]) ?_
      (wrote_endHold .reactRelease none data (dropSet (setOf data.toNat) (s.heard dest))) (by decide)
    · refine congrArg Host.Outcome.next (hsent.trans (after_congr ?_ _ _ _))
      have hheard : (s.heard dest).FreezesLegal := by
        rw [heard_eq]
        exact ⟨hfreezes.marks, hfreezes.levels⟩
      have hdrop := dropSet_eq hheard (setOf data.toNat)
      rw [set_heard] at hdrop
      rw [hdrop, heard_eq]
      rfl
    · have hactive : (((begin (s.heard dest)).map endHold).st.set (setOf data.toNat)).active = true := by
        show ((s.heard dest).set _).active = true
        rw [set_heard, ReactionSet.active, hbind]
        rfl
      have hword : BitVec.ofNat 16 data.toNat = data := by simp
      rw [performWrite, doRelease, if_pos hactive, hword, writeRecord_calm_map]
      · rfl
      · rw [heard_eq]
        exact hcalm

end Sys2Proof.Machine
end

section
/-! PROOFS. The claim candidate (O33), the two claims (O30, O31) and the two completions (O35, O36). -/

namespace Sys2Proof.Machine

-- one proof after another: each thread that elaborates costs the check a GiB of its memory limit
set_option Elab.async false

/-! ## The candidate -/

/-- The class bits are the rank (R66, R88). -/
theorem classRank_classOf (c : BitVec 2) : classRank (classOf c) = c.toNat := by
  revert c
  decide

theorem rank_eq (s : State) (i : SourceId) :
    s.rank i = if i = compoundId then 3 else ((s.src i).w0.extractLsb' 3 2).toNat := by
  rw [State.rank, Source.cls, classRank_classOf]
  rfl

theorem eligible_iff (s : State) (i : SourceId) :
    s.eligible i = true ↔
      s.srcs.mask.getLsbD i.val = false ∧
        ((s.regs.policy.extractLsb' 2 3).toNat ≤ ((s.src i).w0.extractLsb' 5 3).toNat
          ∨ ((s.src i).w0.extractLsb' 3 2).toNat = 2) := by
  have hcritical := (classOf_eq ((s.src i).w0.extractLsb' 3 2)).2.1
  simp only [State.eligible, Bool.and_eq_true, Bool.not_eq_true', Bool.or_eq_true, decide_eq_true_eq, beq_iff_eq]
  exact and_congr Iff.rfl (or_congr Iff.rfl hcritical)

theorem claimable_iff (s : State) (i : SourceId) :
    s.claimable i = true ↔
      s.eligible i = true ∧ s.mc.mode = .running ∧ s.svc.stack.length < 4
        ∧ ∀ top rest, s.svc.stack = top :: rest → s.pairAbove i top.source = true := by
  simp only [State.claimable, Bool.and_eq_true, beq_iff_eq, decide_eq_true_eq, and_assoc]
  refine and_congr Iff.rfl (and_congr Iff.rfl (and_congr Iff.rfl ?_))
  cases s.svc.stack with
  | nil => simp
  | cons top rest => simp

/-- What stands before a claimable entry and is eligible is claimable too (R87, R90). -/
theorem claimable_of_standsBefore {s : State} {i j : SourceId} (hb : s.standsBefore i j = true)
    (he : s.eligible i = true) (hc : s.claimable j = true) : s.claimable i = true := by
  rw [claimable_iff] at hc ⊢
  obtain ⟨-, hm, hl, htop⟩ := hc
  refine ⟨he, hm, hl, fun top rest hs => ?_⟩
  have ha := htop top rest hs
  rw [standsBefore_iff] at hb
  rw [pairAbove_iff] at ha ⊢
  omega

/-- In a list in order, the first claimable entry is the first eligible one (R90). -/
theorem find?_claimable {s : State} {l : List PendEntry}
    (h : l.Pairwise fun a b => s.standsBefore a.source b.source = true) :
    (l.find? fun e => s.claimable e.source) =
      (l.find? fun e => s.eligible e.source).filter fun e => s.claimable e.source := by
  induction l with
  | nil => rfl
  | cons e rest ih =>
    obtain ⟨hfirst, hrest⟩ := List.pairwise_cons.mp h
    cases he : s.eligible e.source with
    | false => simpa [he, claimable_of_not_eligible he] using ih hrest
    | true =>
      cases hc : s.claimable e.source with
      | true => simp [he, hc, Option.filter]
      | false =>
        have hnone : ∀ x ∈ rest, ¬s.claimable x.source = true := fun x hx hcx => by
          rw [claimable_of_standsBefore (hfirst x hx) he hcx] at hc
          cases hc
        simpa [he, hc, Option.filter] using hnone

/-- Settles O33: where the order of the list is that of R87, the pair of the first eligible entry is the greatest. -/
theorem candidateIsTheFirstEligible : Obligations.CandidateIsTheFirstEligible := by
  unfold Obligations.CandidateIsTheFirstEligible
  refine ⟨fun s h => find?_claimable (h.ordered.imp fun hp => hp.2), fun s i => ⟨eligible_iff s i, ?_⟩⟩
  dsimp only
  simp only [← rank_eq]
  rw [claimable_iff]
  simp only [pairAbove_iff, eq_comm (a := s.rank i)]
  rfl

/-! ## The two claims -/

theorem hears_directed {s : State} (h : s.mc.nodeId ≠ 0) : s.hears (.directed s.mc.nodeId) = true := by
  simpa [State.hears] using h

/-- A Read of CLAIM with an unannounced COMPOUND top (R98, R100). -/
theorem executeClaim_announces {w : Work} (hm : w.st.mc.mode ≠ .lockdown) (ht : w.st.topUnannounced = true)
    (hc : (announceState w.st).calm 1) (index : Byte) :
    executeClaim index w = (w.map fun s => (announceState s).wrote .claim (some compoundId) 1,
      { outcome := .done, data := w.st.claimWord compoundId }) := by
  rw [executeClaim, if_neg hm, if_pos ht, announceCompound_eq, writeRecord_calm_map _ _ _ hc]

/-- Settles O30. -/
theorem claimAnnouncesCompound : Obligations.ClaimAnnouncesCompound := by
  unfold Obligations.ClaimAnnouncesCompound
  intro s data tag e rest hi hid hm hs he ha hc
  have hsent := sendRequest_read (index := 0x10) (data := data) (reg := .claim)
    (f := fun x => (announceState x).wrote .claim (some compoundId) 1)
    (reply := ⟨.done, s.claimWord compoundId⟩) tag hi (hears_directed hid) rfl rfl nofun ?_
    (wrote_endHold .claim (some compoundId) 1 (announceState (s.heard (.directed s.mc.nodeId))))
  · refine congrArg Host.Outcome.next (hsent.trans (after_congr ?_ _ _ _))
    rw [heard_eq, announceState, hs]
    rfl
  · have ht : s.topUnannounced = true := by simp [State.topUnannounced, hs, he, ha]
    rw [heard_eq]
    generalize (s.heard (.directed s.mc.nodeId)).link = l
    exact executeClaim_announces (w := (begin { s with link := l }).map endHold) hm ht hc 0x10

/-- A state that no command leads to: JOURNAL is Disarmed and has an entry in the list all the same, asks for repeats, and
the journal is full. -/
def waitingDisarmedJournal : State :=
  let s := State.reset
  { s with
    link := { s.link with phase := .ready, lselHigh := true }
    rst := { s.rst with held := false, intervalLeft := 0 }
    mc := { s.mc with mode := .running, nodeId := 1 }
    srcs := { s.srcs with table := s.srcs.table.set journalId.val { s.src journalId with w1 := 0x0060 } }
    arb := { s.arb with waiting := [{ source := journalId, deadline := .none }] }
    regs := { s.regs with policy := 0 }
    jn := { s.jn with unread := List.replicate Config.journalLimit .zero, filter := 0xFFFF } }

/-- The occurrences that JOURNAL keeps back after a command. -/
def journalRepeats : Host.Outcome State Fault Refusal → Byte
  | .next t => (t.src journalId).repeatCount
  | _ => 0

set_option maxRecDepth 100000 in
/-- The claim makes the Disarmed JOURNAL Serving, so that the loss of the Claim record is an occurrence of it, which it
keeps back (R85, R156). -/
theorem journalRepeats_claim : journalRepeats (exec (.claim 1 0 0) waitingDisarmedJournal) = 1 := by decide

set_option maxRecDepth 100000 in
/-- Refutes O31: that the state is calm because JOURNAL is Disarmed does not last through the claim where JOURNAL itself is
the candidate, which the statement allows because it does not ask for `EventsAgree`. -/
theorem not_claimTakesTheCandidate : ¬ Obligations.ClaimTakesTheCandidate := by
  unfold Obligations.ClaimTakesTheCandidate
  intro h
  have hclaim := h waitingDisarmedJournal 0 0 { source := journalId, deadline := .none }
    ⟨rfl, rfl, rfl, rfl, rfl, rfl, rfl⟩ (by decide) rfl (by decide) (by decide) (.inr rfl)
  have hrepeats := journalRepeats_claim.symm.trans (congrArg journalRepeats hclaim)
  exact absurd hrepeats (by decide)

/-! ## The completions -/

/-- A Complete that names the source of the top passes its checks (R28, R105). -/
theorem writeRefusal_complete {s : State} {e : StackEntry} {rest : List StackEntry} (hm : s.mc.mode ≠ .lockdown)
    (hs : s.svc.stack = e :: rest) (ha : e.source = compoundId → e.announced = true) :
    writeRefusal s .complete ((sourceBits e.source).zeroExtend 16) = none := by
  have hpair : ¬(e.source = compoundId ∧ e.announced = false) := fun h => by
    have := ha h.1
    rw [h.2] at this
    cases this
  rw [writeRefusal_specific (by simpa [modeRefuses] using hm) (fun _ => rfl), specificRefusal_complete,
    if_neg (not_not_intro (sourceBits_high e.source)), hs, namedSource_sourceBits]
  dsimp only
  rw [if_neg (not_not_intro rfl), if_neg hpair]

/-- A record changes the journal only (R155). -/
theorem wrote_eq (s : State) (k : RecordKind) (source : Option SourceId) (detail : Word) :
    s.wrote k source detail =
      putJournal (s.wrote k source detail).jn.unread (s.wrote k source detail).jn.lost s := by
  unfold State.wrote
  dsimp only
  split
  · split <;> rfl
  · rfl

@[simp] theorem src_wrote (s : State) (k : RecordKind) (source : Option SourceId) (detail : Word) (i : SourceId) :
    (s.wrote k source detail).src i = s.src i := by
  rw [wrote_eq]
  rfl

/-- What the node does for an accepted Complete while the journal is calm (R106). -/
def completeState (i : SourceId) (s : State) : State :=
  settleCompleted i ((popStack s).wrote .complete (some i) ((s.src i).repeatCount.zeroExtend 16))

theorem joinState_endHold (i : SourceId) (x : Source) (d : Deadline) (next : Nat) (s : State) :
    joinState i x d next (endHold s) = endHold (joinState i x d next s) := by
  unfold joinState
  dsimp only
  rw [insertEntry_congr (s := s.setSrc i x) (t := (endHold s).setSrc i x) rfl]
  rfl

theorem settleCompleted_endHold (i : SourceId) (s : State) :
    settleCompleted i (endHold s) = endHold (settleCompleted i s) := by
  simp only [settleCompleted, releaseAbsorbed, joinPending_eq, relatch_eq, apply_ite endHold, ← joinState_endHold]
  rfl

/-- An accepted Complete of the source on top (R105, R106). -/
theorem exec_complete {s : State} {dest : Dest} {e : StackEntry} {rest : List StackEntry} (tag : BitVec 4)
    (hi : s.linkIdle) (hh : s.hears dest = true) (hb : s.brokenFor dest 0x11 = false) (hm : s.mc.mode ≠ .lockdown)
    (hs : s.svc.stack = e :: rest) (ha : e.source = compoundId → e.announced = true) (hc : s.calm 1) :
    exec (.complete dest ((sourceBits e.source).zeroExtend 16) tag) s =
      .next (s.after dest .done tag 0 (completeState e.source)) := by
  refine congrArg Host.Outcome.next (sendRequest_write_accepted (reg := .complete) (reply := ⟨.done, 0⟩) tag hi hh hb rfl
    (by decide) (writeRefusal_complete hm hs ha) ?_ ?_ (by decide))
  · rw [performWrite, namedSource_sourceBits, completeTop_eq, writeRecord_calm_map]
    · rfl
    · rw [heard_eq]
      exact hc
  · rw [completeState, completeState, ← settleCompleted_endHold, ← wrote_endHold]
    rfl

/-- The state after the pop of this top with its Complete record (R106, steps 1 and 2). -/
theorem popStack_of_stack {s : State} {e : StackEntry} {rest : List StackEntry} (hs : s.svc.stack = e :: rest) :
    popStack s = { s with svc := { s.svc with stack := rest } } := by
  rw [popStack, hs]
  rfl

/-- A source already replaced joins the list just as without that. -/
theorem joinState_setSrc (i : SourceId) (x y : Source) (d : Deadline) (next : Nat) (s : State) :
    joinState i x d next (s.setSrc i y) = joinState i x d next s := by
  unfold joinState
  dsimp only
  rw [setSrc_setSrc]
  rfl

@[simp] theorem arb_wrote (s : State) (k : RecordKind) (source : Option SourceId) (detail : Word) :
    (s.wrote k source detail).arb = s.arb := by
  rw [wrote_eq]
  rfl

@[simp] theorem tc_wrote (s : State) (k : RecordKind) (source : Option SourceId) (detail : Word) :
    (s.wrote k source detail).tc = s.tc := by
  rw [wrote_eq]
  rfl

/-- The re-latch of a source that has just become Quiet, in the words of R107. -/
theorem relatch_quiet {s y : State} {i : SourceId} (ha : y.arb = s.arb) (ht : y.tc = s.tc) :
    relatch i (y.setSrc i { s.src i with state := .quiet }) =
      let z := y.setSrc i { s.src i with
        state := .pending, count := (s.src i).repeatCount, repeatCount := 0, expired := false
        latch := some { position := s.arb.nextPosition, tick := s.tc.count } }
      { z with arb := { z.arb with
        nextPosition := s.arb.nextPosition + 1
        waiting := insertEntry z
          { source := i
            deadline := if (s.src i).claimDeadline = 0 then .none else .runningDown ((s.src i).claimDeadline * 10) }
          s.arb.waiting } } := by
  have hwaiting : s.arb.waiting = y.arb.waiting := by rw [ha]
  rw [relatch_eq, relatchedSource, src_setSrc_self, joinState_setSrc, hwaiting, ← ha, ← ht]
  rfl

/-- Settles O35. -/
theorem completeReturnsOrRelatches : Obligations.CompleteReturnsOrRelatches := by
  unfold Obligations.CompleteReturnsOrRelatches
  dsimp only
  intro s dest tag e rest hi hh hb hm hs hne hc
  have hx : (s.heard dest).src e.source = s.src e.source := src_heard s dest _
  have hstack : (s.heard dest).svc.stack = e :: rest := by rw [svc_heard, hs]
  constructor
  all_goals
    intro hr
    rw [exec_complete tag hi hh hb hm hs (fun h => absurd h hne) hc]
    refine congrArg Host.Outcome.next (after_congr ?_ _ _ _)
    rw [completeState, settleCompleted, if_neg hne, src_wrote, popStack_of_stack hstack, hx]
    rw [show State.src { s.heard dest with svc := { (s.heard dest).svc with stack := rest } } e.source
      = s.src e.source from hx]
  · have hword : (s.src e.source).repeatCount.zeroExtend 16 = 0 := by rw [hr]; rfl
    rw [if_neg (by simp [Source.repeatWaiting, hr]), hword]
  · rw [if_pos (by simpa [Source.repeatWaiting] using hr), relatch_quiet (s := s)]
    · exact (arb_wrote _ _ _ _).trans (arb_heard s dest)
    · exact (tc_wrote _ _ _ _).trans (tc_heard s dest)

/-- What the record of a frame changes (R21, R136). -/
theorem replied_eq (s : State) (dest : Dest) (outcome : FrameOutcome) (tag : BitVec 4) (data : Word) :
    s.replied dest outcome tag data =
      { s with
        link := { s.link with hold := none, prev := { outcome := outcome, tag := tag, data := data } }
        dl := (s.replied dest outcome tag data).dl } := by
  unfold State.replied
  dsimp only
  split <;> rfl

/-- The journal after a record depends on what the record shows only (R151, R155). -/
theorem jn_wrote_congr {s t : State} (k : RecordKind) (source : Option SourceId) (detail : Word) (hj : t.jn = s.jn)
    (ha : t.recordAdmitted k source = s.recordAdmitted k source) (hr : t.record k source detail = s.record k source detail)
    (ho : t.overwriteOldest = s.overwriteOldest) : (t.wrote k source detail).jn = (s.wrote k source detail).jn := by
  simp only [State.wrote, apply_ite State.jn, hj, ha, hr, ho]

/-- A completed compound condition releases the source that it absorbed (R109, R121). -/
theorem completeState_compound {s : State} {j : SourceId} (hj : j = sourceOf (s.svc.comprec0.extractLsb' 0 5))
    (hn : compoundId ≠ j) (ha : (s.src j).state = .absorbed) :
    completeState compoundId s =
      joinState j { s.src j with state := .pending, expired := false } (s.src j).freshClaimDeadline s.arb.nextPosition
        (((popStack s).wrote .complete (some compoundId) ((s.src compoundId).repeatCount.zeroExtend 16)).setSrc compoundId
          { s.src compoundId with state := .quiet, count := 0, repeatCount := 0 }) := by
  have hx (w : Word) (x : Source) : State.src (((popStack s).wrote .complete (some compoundId) w).setSrc compoundId x) j
      = s.src j := by
    rw [src_setSrc, if_neg hn, src_wrote]
    rfl
  have harb (w : Word) : ((popStack s).wrote .complete (some compoundId) w).arb = s.arb := arb_wrote _ _ _ _
  have hsvc (w : Word) : ((popStack s).wrote .complete (some compoundId) w).svc.comprec0 = s.svc.comprec0 := by
    rw [wrote_eq]
    rfl
  rw [completeState, settleCompleted, if_pos rfl, releaseAbsorbed, setSrc_svc, hsvc, ← hj, hx, if_pos ha,
    joinPending_eq, hx, setSrc_arb, harb, src_wrote]
  rfl

/-- Settles O36: the completed top is COMPOUND's, and the source that joins is the second of its pair (R120). -/
theorem completeReleasesAbsorbedSource : Obligations.CompleteReleasesAbsorbedSource := by
  unfold Obligations.CompleteReleasesAbsorbedSource
  dsimp only
  intro s dest tag e rest j hl hi hh hb hm hs he hann hx hc
  have hj := ((hl.events.absorbed hm j).mp hx).2
  have hserving : (s.src compoundId).state = .serving := he ▸ state_of_top hl.events.core hs
  have hn : compoundId ≠ j := by
    rintro rfl
    rw [hserving] at hx
    cases hx
  have hdrop : s.svc.stack.drop 1 = rest := by rw [hs]; rfl
  have hexec : exec (.complete dest 28 tag) s = .next (s.after dest .done tag 0 (completeState compoundId)) := by
    rw [← he, ← exec_complete tag hi hh hb (by rw [hm]; decide) hs (fun _ => hann) hc, he]
    rfl
  have hvalid : s.EventsValid := ⟨hl.events, hl.armed, hl.atRest.bounded.armed _ (.inl rfl)⟩
  refine ⟨_, hexec, ?_, ?_, ?_, ?_, (eventsValid_command.exec hvalid hexec).events, ?_, ?_, ?_, ?_, ?_⟩
  all_goals
    rw [State.after, heard_eq, completeState_compound (by exact hj) hn (by exact hx), replied_eq]
  case refine_1 =>
    rw [wrote_eq, ← hdrop]
    rfl
  case refine_2 =>
    rw [wrote_eq]
    have hquiet : { s.src compoundId with state := .quiet, repeatCount := 0 }
        = { s.src compoundId with state := .quiet, count := 0, repeatCount := 0 } := by
      rw [← (hl.events.core.of_serving hserving).1]
    rw [hquiet]
    rfl
  case refine_3 =>
    rw [wrote_eq]
    rfl
  case refine_4 =>
    intro p
    refine (mem_joinState _ _ _ s.arb.nextPosition _ p).trans (or_comm.trans (or_congr ?_ Iff.rfl))
    rw [wrote_eq]
    rfl
  case refine_5 =>
    rw [wrote_eq]
    rfl
  case refine_6 =>
    rw [wrote_eq]
    rfl
  case refine_7 =>
    rw [wrote_eq]
    rfl
  case refine_8 =>
    have hzero : (s.src compoundId).repeatCount.zeroExtend 16 = 0 := by rw [hl.events.norepeat]; rfl
    rw [← hzero]
    exact jn_wrote_congr (s := s) _ _ _ rfl rfl rfl rfl
  case refine_9 => rfl

end Sys2Proof.Machine
end

section
/-! PROOFS. What one occurrence makes of the state, in the words of `wrote`, and what the JOURNAL occurrences that it
gives rise to can add at the end of the happening. -/

namespace Sys2Proof.Machine

-- one proof after another: each thread that elaborates costs the check a GiB of its memory limit
set_option Elab.async false

/-! ## Records -/

/-- The state after a record, whatever occurrence a loss calls for (R155, R156). -/
theorem writeRecord_wrote (k : RecordKind) (source : Option SourceId) (detail : Word) (w : Work) :
    (writeRecord k source detail w).st = w.st.wrote k source detail := by
  rcases w with ⟨s, b, d⟩
  unfold writeRecord joinJournal loseRecord State.wrote
  simp only [Work.map, setUnread, satInc_byte]
  split
  · split
    · rfl
    split
    · rfl
    split <;> rfl
  · rfl

/-- A record takes one place of a calm journal (R155). -/
theorem calm_wrote {s : State} {n : Nat} (h : s.calm (n + 1)) (k : RecordKind) (source : Option SourceId) (detail : Word) :
    (s.wrote k source detail).calm n := by
  rcases h with h | h
  · refine .inl ?_
    unfold State.wrote
    dsimp only
    split
    · rw [if_pos (by omega)]
      simp only [List.length_append, List.length_singleton]
      omega
    · omega
  · refine .inr ?_
    rw [src_wrote]
    exact h

/-! ## The source's own reaction -/

/-- Source `i` applies its set, if it names one, with the record (R141). -/
def State.applied (i : SourceId) (s : State) : State :=
  if (s.src i).reactionSet = 0 then s
  else (bindSet (setOf (s.src i).reactionSet.toNat) i s).wrote .reactApply (some i) ((s.src i).reactionSet.zeroExtend 16)

/-- Source `i` applies its set if it reacts at its latch (R82, R115, step 1). -/
def State.reacted (i : SourceId) (s : State) : State := if (s.src i).reactWhen = .atLatch then s.applied i else s

theorem applyReaction_applied (i : SourceId) (w : Work) : (applyReaction i w).st = w.st.applied i := by
  rw [applyReaction_eq, State.applied]
  split
  · rfl
  · rw [writeRecord_wrote]
    rfl

theorem reaction_reacted (i : SourceId) (w : Work) :
    (if (w.st.src i).reactWhen = .atLatch then applyReaction i w else w).st = w.st.reacted i := by
  rw [State.reacted, apply_ite Work.st, applyReaction_applied]

theorem applyReaction_calm {i : SourceId} {w : Work} (h : w.st.calm 1) : applyReaction i w = w.map (State.applied i) := by
  rw [applyReaction_eq]
  unfold Work.map
  rw [State.applied]
  split
  · rfl
  · exact writeRecord_calm_map (w := w) (f := bindSet _ i) _ _ _ h

theorem calm_applied {s : State} {n : Nat} (h : s.calm (n + 1)) (i : SourceId) : (s.applied i).calm n := by
  rw [State.applied]
  split
  · rcases h with h | h
    · exact .inl (by omega)
    · exact .inr h
  · exact calm_wrote (s := bindSet _ i s) h _ _ _

/-! ## First latches -/

/-- A first latch with the normal outcome (R82). -/
def State.latches (i : SourceId) (detail : Word) (s : State) : State :=
  (maskedLatch i detail (s.reacted i)).wrote .latch (some i) detail

/-- The absorption of a source with its record (R115). -/
def State.absorbs (i : SourceId) (detail : Word) (partner : SourceId) (s : State) : State :=
  (absorbState i detail (s.reacted i)).wrote .absorb (some i) ((sourceBits partner).zeroExtend 16)

/-- The push of a COMPOUND entry with its record and COMPOUND's reaction (R117). -/
def State.pushes (first second : SourceId) (s : State) : State :=
  ((pushState first second s).wrote .compound (some compoundId) (compoundPair first second)).applied compoundId

theorem normalLatch_st (i : SourceId) (detail : Word) (w : Work) :
    (normalLatch i detail w).st = w.st.latches i detail := by
  rw [normalLatch_eq, writeRecord_wrote, map_st, reaction_reacted]
  rfl

theorem absorb_absorbs (i : SourceId) (detail : Word) (partner : SourceId) (w : Work) :
    (absorb i detail partner w).st = w.st.absorbs i detail partner := by
  rw [absorb_eq, writeRecord_wrote, map_st, reaction_reacted]
  rfl

theorem pushCompound_pushes (first second : SourceId) (w : Work) :
    (pushCompound first second w).st = w.st.pushes first second := by
  rw [pushCompound_eq, applyReaction_applied, writeRecord_wrote]
  rfl

theorem enterLockdown_locked (cause : BitVec 4) (source : Option SourceId) (second : BitVec 5) (w : Work) :
    (enterLockdown cause source second w).st = w.st.lockedBy cause source second := by
  rw [enterLockdown_lockedBy]
  rfl

/-- A first latch with the compound outcome over the top of the stack (R115 to R117, R123). -/
theorem compoundLatch_st {w : Work} {top : StackEntry} {rest : List StackEntry} (hs : w.st.svc.stack = top :: rest)
    (i : SourceId) (detail : Word) :
    (compoundLatch i detail w).st =
      if (w.st.absorbs i detail top.source).svc.stack.length < Config.stackLimit then
        (w.st.absorbs i detail top.source).pushes top.source i
      else (w.st.absorbs i detail top.source).lockedBy 4 (some i) (sourceBits top.source) := by
  unfold compoundLatch
  rw [hs]
  dsimp only
  rw [apply_ite Work.st, pushCompound_pushes, enterLockdown_locked, absorb_absorbs]

theorem firstLatch_normal {i : SourceId} {w : Work} (h : w.st.decision i = .normal) (detail : Word) :
    firstLatch i detail w = normalLatch i detail w := by
  unfold firstLatch
  rw [show escalate _ _ _ = _ from h]

theorem firstLatch_compound {i : SourceId} {w : Work} (h : w.st.decision i = .compound) (detail : Word) :
    firstLatch i detail w = compoundLatch i detail w := by
  unfold firstLatch
  rw [show escalate _ _ _ = _ from h]

theorem firstLatch_lockdown {i : SourceId} {w : Work} {cause : BitVec 4} (h : w.st.decision i = .lockdown cause)
    (detail : Word) : firstLatch i detail w = enterLockdown cause (some i) (w.st.secondSource cause) w := by
  unfold firstLatch
  rw [show escalate _ _ _ = _ from h]

theorem maskedLatch_jn (i : SourceId) (detail : Word) (s : State) : (maskedLatch i detail s).jn = s.jn := by
  unfold maskedLatch
  rw [selfMask_eq]
  split <;> rfl

/-- The source table after a latch: one source is another (R82). -/
theorem table_maskedLatch (i : SourceId) (detail : Word) (s : State) :
    (maskedLatch i detail s).srcs.table = (latchState i detail s).srcs.table := by
  unfold maskedLatch
  rw [selfMask_eq]
  split <;> rfl

theorem src_latchState (i j : SourceId) (detail : Word) (s : State) :
    (latchState i detail s).src j = if i = j then latchedSource i detail s else s.src j := by
  rw [latchState_eq, src_joinState]

theorem src_maskedLatch {i j : SourceId} (detail : Word) (s : State) :
    (maskedLatch i detail s).src j = if i = j then latchedSource i detail s else s.src j := by
  rw [← src_latchState, State.src, table_maskedLatch]
  rfl

/-- A latch that is not preceded by a reaction, while the journal is calm (R82). -/
theorem normalLatch_calm {i : SourceId} {w : Work} (hj : i ≠ journalId) (hc : w.st.calm 2 ∨ (w.st.calm 1 ∧ (w.st.src i).reactWhen ≠ .atLatch))
    (detail : Word) : normalLatch i detail w = w.map (State.latches i detail) := by
  have hw : (if (w.st.src i).reactWhen = .atLatch then applyReaction i w else w) = w.map (State.reacted i) := by
    unfold Work.map
    rw [State.reacted]
    split
    · next ha =>
      refine applyReaction_calm ?_
      rcases hc with h | ⟨-, h⟩
      · exact h.imp (by omega) id
      · exact absurd ha h
    · rfl
  have hr : (w.st.reacted i).calm 1 := by
    rw [State.reacted]
    split
    · next ha =>
      rcases hc with h | ⟨-, h⟩
      · exact calm_applied h i
      · exact absurd ha h
    · rcases hc with h | ⟨h, -⟩
      · exact h.imp (by omega) id
      · exact h
  have hm : (maskedLatch i detail (w.st.reacted i)).calm 1 := by
    refine hr.imp (fun h => ?_) fun h => ?_
    · rw [maskedLatch_jn]
      exact h
    · rw [src_maskedLatch, if_neg hj]
      exact h
  rw [normalLatch_eq, hw]
  exact writeRecord_calm_map (w := w.map (State.reacted i)) (f := maskedLatch i detail) _ _ _ hm

/-! ## The decision -/

theorem decision_notice {s : State} {i : SourceId} (h : (s.src i).cls = .notice) : s.decision i = .normal := by
  rw [State.decision, h]
  rfl

theorem decision_fault {s : State} {i : SourceId} (h : (s.src i).cls = .fault) :
    s.decision i = if s.severity = 0 then .normal
      else if s.severity = 1 ∨ s.severity = 2 then (if s.compoundEnable then .compound else .normal)
      else .lockdown 2 := by
  rw [State.decision, h]
  match s.severity with
  | 0 | 1 | 2 => rfl
  | n + 3 => simp [escalate]

theorem decision_critical {s : State} {i : SourceId} (h : (s.src i).cls = .critical) :
    s.decision i = if s.severity = 0 ∨ s.severity = 1 then .normal
      else if s.severity = 2 then .lockdown 1 else .lockdown 3 := by
  rw [State.decision, h]
  match s.severity with
  | 0 | 1 | 2 => rfl
  | n + 3 => simp [escalate]

/-! ## The units after a latch -/

theorem applied_eq (i : SourceId) (s : State) :
    s.applied i = { s with act := (s.applied i).act, jn := (s.applied i).jn } := by
  unfold State.applied
  split
  · rfl
  · rw [wrote_eq]
    rfl

theorem reacted_eq (i : SourceId) (s : State) :
    s.reacted i = { s with act := (s.reacted i).act, jn := (s.reacted i).jn } := by
  unfold State.reacted
  split
  · exact applied_eq i s
  · rfl

/-- A source that names a set is bound to it once it has applied it (R141). -/
theorem applied_binds {i : SourceId} {s : State} (h : (s.src i).reactionSet ≠ 0) :
    ∃ b, ((s.applied i).set (setOf (s.src i).reactionSet.toNat)).binding = some b ∧ i ∈ b := by
  rw [State.applied, if_neg h, wrote_eq]
  have hb : ((bindSet (setOf (s.src i).reactionSet.toNat) i s).set (setOf (s.src i).reactionSet.toNat)).binding =
      ((s.set (setOf (s.src i).reactionSet.toNat)).bind i).binding := by
    show (((s.putSet _ _).set _).binding) = _
    rw [set_putSet_self]
  refine ⟨_, hb, ?_⟩
  split <;> simp_all

theorem maskedLatch_eq (i : SourceId) (detail : Word) (s : State) :
    maskedLatch i detail s = { latchState i detail s with
      srcs := (maskedLatch i detail s).srcs
      link := (maskedLatch i detail s).link } := by
  unfold maskedLatch
  rw [selfMask_eq]
  split <;> rfl

theorem getLsbD_setBit (m : BitVec 32) (i j : SourceId) :
    (setBit m i.val).getLsbD j.val = (m.getLsbD j.val || decide (i = j)) := by
  have hone : (1#32 <<< i.val).getLsbD j.val = decide (i = j) := by
    revert i j
    decide
  rw [setBit, BitVec.getLsbD_or, hone]

theorem masked_selfMask (i j : SourceId) (s : State) : (selfMask i s).masked j = (s.masked j || decide (i = j)) := by
  rw [selfMask_eq]
  show (if s.masked i then s.srcs.mask else setBit s.srcs.mask i.val).getLsbD j.val = _
  split
  · next h =>
    by_cases hij : i = j
    · subst hij
      rw [decide_eq_true rfl, Bool.or_true]
      exact h
    · simp [hij, State.masked]
  · exact getLsbD_setBit _ _ _

/-- The mask after a latch (R74). -/
theorem masked_maskedLatch (i j : SourceId) (detail : Word) (s : State) :
    (maskedLatch i detail s).masked j = (s.masked j || (decide (i = j) && (s.src i).selfMasks)) := by
  have hl : (latchState i detail s).masked j = s.masked j := by
    rw [latchState_eq]
    rfl
  have hs : ((latchState i detail s).src i).selfMasks = (s.src i).selfMasks := by
    rw [src_latchState, if_pos rfl]
    rfl
  unfold maskedLatch
  rw [hs]
  split
  · next h => rw [masked_selfMask, hl, h, Bool.and_true]
  · next h => simp [hl, h]

section
variable (i : SourceId) (detail : Word) (s : State)

theorem latches_eq :
    s.latches i detail = { s with
      srcs := (s.latches i detail).srcs
      link := (s.latches i detail).link
      arb := (s.latches i detail).arb
      act := (s.reacted i).act
      jn := (s.latches i detail).jn } := by
  rw [State.latches, wrote_eq, maskedLatch_eq, latchState_eq, reacted_eq]
  rfl

theorem src_latches (j : SourceId) :
    (s.latches i detail).src j = if i = j then latchedSource i detail s else s.src j := by
  rw [State.latches, src_wrote, src_maskedLatch, reacted_eq]
  rfl

theorem masked_latches (j : SourceId) :
    (s.latches i detail).masked j = (s.masked j || (decide (i = j) && (s.src i).selfMasks)) := by
  rw [State.latches, wrote_eq]
  refine (masked_maskedLatch _ _ _ _).trans ?_
  rw [reacted_eq]
  rfl

theorem mem_latches (p : PendEntry) :
    p ∈ (s.latches i detail).arb.waiting ↔
      p = { source := i, deadline := (s.src i).freshClaimDeadline } ∨ p ∈ s.arb.waiting := by
  rw [State.latches, wrote_eq, maskedLatch_eq, latchState_eq, reacted_eq]
  exact mem_joinState _ _ _ (s.arb.nextPosition + 1) _ p

theorem alert_latches : (s.latches i detail).arb.alert = s.arb.alert := by
  rw [State.latches, wrote_eq, maskedLatch_eq, latchState_eq, reacted_eq]
  rfl

theorem nextPosition_latches : (s.latches i detail).arb.nextPosition = s.arb.nextPosition + 1 := by
  rw [State.latches, wrote_eq, maskedLatch_eq, latchState_eq, reacted_eq]
  rfl

end

/-- A source that reacts at its latch is bound to its set after it (R82, R141). -/
theorem latches_binds {i : SourceId} {s : State} (h : (s.src i).reactionSet ≠ 0) (hw : (s.src i).reactWhen = .atLatch)
    (detail : Word) :
    ∃ b, ((s.latches i detail).set (setOf (s.src i).reactionSet.toNat)).binding = some b ∧ i ∈ b := by
  rw [latches_eq]
  have := applied_binds h
  rwa [show s.applied i = s.reacted i from (if_pos hw).symm] at this

section
variable (i : SourceId) (detail : Word) (partner : SourceId) (s : State)

theorem absorbs_eq :
    s.absorbs i detail partner = { s with
      srcs := (absorbState i detail s).srcs
      arb := (absorbState i detail s).arb
      act := (s.reacted i).act
      jn := (s.absorbs i detail partner).jn } := by
  rw [State.absorbs, wrote_eq, reacted_eq]
  rfl

theorem src_absorbs (j : SourceId) :
    (s.absorbs i detail partner).src j = (absorbState i detail s).src j := by
  rw [absorbs_eq]
  rfl

end

theorem src_applied (i j : SourceId) (s : State) : (s.applied i).src j = s.src j := by
  rw [applied_eq]
  rfl

theorem src_pushes (first second : SourceId) (s : State) (j : SourceId) :
    (s.pushes first second).src j = (pushState first second s).src j := by
  rw [State.pushes, src_applied, src_wrote]

theorem pushes_eq (first second : SourceId) (s : State) :
    s.pushes first second = { pushState first second s with
      act := (s.pushes first second).act
      jn := (s.pushes first second).jn } := by
  rw [State.pushes, applied_eq, wrote_eq]
  rfl

theorem lockedBy_eq (cause : BitVec 4) (source : Option SourceId) (second : BitVec 5) (s : State) :
    s.lockedBy cause source second = { s with
      mc := { s.mc with
        mode := .lockdown
        lockrec := cause ++ 0#2 ++ (match source with | some i => sourceBits i | none => 0) ++ second
        locktick := s.tc.count.extractLsb' 0 16
        causeSeen := false }
      jn := (s.lockedBy cause source second).jn } := by
  have h := enterLockdown_st cause source second (begin s)
  rw [enterLockdown_locked] at h
  exact h

/-! ## The JOURNAL occurrences at the end -/

/-- JOURNAL is a Notice, and while it is armed it applies no set (R77, R71). -/
structure State.JournalNotice (s : State) : Prop where
  cls  : (s.src journalId).cls = .notice
  when : (s.src journalId).armed = true → (s.src journalId).reactWhen = .never

/-- What JOURNAL occurrences can make of a state: only JOURNAL's source, its mask bit and its entry in the list are
others, with the hold and the journal; and where JOURNAL was not Quiet only its counts and its detail word (R81 to R85,
R156). -/
structure JournalFrame (s t : State) : Prop where
  units    : t = { s with
    link := { s.link with hold := t.link.hold }, srcs := t.srcs
    arb := { s.arb with waiting := t.arb.waiting, nextPosition := t.arb.nextPosition }
    jn := { s.jn with unread := t.jn.unread, lost := t.jn.lost } }
  other    : ∀ j, j ≠ journalId → t.src j = s.src j ∧ t.masked j = s.masked j
  words    : (t.src journalId).w0 = (s.src journalId).w0 ∧ (t.src journalId).w1 = (s.src journalId).w1
    ∧ (t.src journalId).w2 = (s.src journalId).w2
  active   : (s.src journalId).state ≠ .quiet →
    t.src journalId = { s.src journalId with
      count := (t.src journalId).count, repeatCount := (t.src journalId).repeatCount
      detail := (t.src journalId).detail }
    ∧ t.srcs.mask = s.srcs.mask ∧ t.arb = s.arb
  quiet    : (s.src journalId).state = .quiet → t.src journalId = s.src journalId ∧ t.srcs.mask = s.srcs.mask ∧ t.arb = s.arb
    ∨ (t.src journalId).state = .pending ∧ (t.src journalId).overrun = (s.src journalId).overrun
      ∧ (t.src journalId).expired = false ∧ s.arb.nextPosition < t.arb.nextPosition
      ∧ (t.src journalId).latch = some { position := s.arb.nextPosition, tick := s.tc.count }
  waiting  : ∀ p, p ∈ t.arb.waiting ↔ p ∈ s.arb.waiting ∨ ((s.src journalId).state = .quiet
    ∧ (t.src journalId).state = .pending
    ∧ p = { source := journalId, deadline := (s.src journalId).freshClaimDeadline })

theorem JournalFrame.refl (s : State) : JournalFrame s s where
  units := rfl
  other := fun _ _ => ⟨rfl, rfl⟩
  words := ⟨rfl, rfl, rfl⟩
  active := fun _ => ⟨rfl, rfl, rfl⟩
  quiet := fun _ => .inl ⟨rfl, rfl, rfl⟩
  waiting := fun p => by
    refine ⟨.inl, fun h => h.elim id fun ⟨hq, hp, _⟩ => ?_⟩
    rw [hq] at hp
    cases hp

section
variable {s t : State} (h : JournalFrame s t)
include h

theorem JournalFrame.mc : t.mc = s.mc := by rw [h.units]
theorem JournalFrame.svc : t.svc = s.svc := by rw [h.units]
theorem JournalFrame.act : t.act = s.act := by rw [h.units]
theorem JournalFrame.dl : t.dl = s.dl := by rw [h.units]
theorem JournalFrame.tc : t.tc = s.tc := by rw [h.units]
theorem JournalFrame.prev : t.link.prev = s.link.prev := by rw [h.units]
theorem JournalFrame.set (k : SetId) : t.set k = s.set k := by rw [State.set, h.act]; rfl

end

theorem JournalFrame.state_ne {s t : State} (h : JournalFrame s t) (hs : (s.src journalId).state ≠ .quiet) :
    (t.src journalId).state = (s.src journalId).state := by
  rw [(h.active hs).1]

theorem JournalFrame.trans {s t u : State} (h : JournalFrame s t) (g : JournalFrame t u) : JournalFrame s u where
  units := g.units.trans (by rw [h.units])
  other := fun j hj =>
    ⟨(g.other j hj).1.trans (h.other j hj).1, (g.other j hj).2.trans (h.other j hj).2⟩
  words := ⟨g.words.1.trans h.words.1, g.words.2.1.trans h.words.2.1, g.words.2.2.trans h.words.2.2⟩
  active := fun hs => by
    obtain ⟨hx, hm, ha⟩ := h.active hs
    obtain ⟨gx, gm, ga⟩ := g.active (by rw [h.state_ne hs]; exact hs)
    exact ⟨gx.trans (by rw [hx]), gm.trans hm, ga.trans ha⟩
  quiet := fun hq => by
    rcases h.quiet hq with ⟨hx, hm, ha⟩ | ⟨hp, ho, he, hn, hl⟩
    · rcases g.quiet (by rw [hx]; exact hq) with ⟨gx, gm, ga⟩ | ⟨gp, go, ge, gn, gl⟩
      · exact .inl ⟨gx.trans hx, gm.trans hm, ga.trans ha⟩
      · refine .inr ⟨gp, go.trans (by rw [hx]), ge, by rw [← ha]; exact gn, gl.trans ?_⟩
        rw [ha, h.units]
    · obtain ⟨gx, gm, ga⟩ := g.active (by rw [hp]; decide)
      rw [gx, ga]
      exact .inr ⟨hp, ho, he, hn, hl⟩
  waiting := fun p => by
    rw [g.waiting, h.waiting, or_assoc]
    refine or_congr Iff.rfl ?_
    by_cases hq : (s.src journalId).state = .quiet
    · rcases h.quiet hq with ⟨hx, -, -⟩ | ⟨hp, -, -, -, -⟩
      · rw [hx]
        simp [hq]
      · obtain ⟨gx, -, -⟩ := g.active (by rw [hp]; decide)
        have gp : (u.src journalId).state = .pending := by rw [gx]; exact hp
        simp [hq, hp, gp]
    · have ht : (t.src journalId).state ≠ .quiet := by rw [h.state_ne hq]; exact hq
      simp [hq, ht]

theorem JournalFrame.armed {s t : State} (h : JournalFrame s t) :
    (t.src journalId).armed = true ↔ (s.src journalId).armed = true := by
  rw [armed_iff, armed_iff]
  by_cases hq : (s.src journalId).state = .quiet
  · rcases h.quiet hq with ⟨hx, -, -⟩ | ⟨hp, -, -, -, -⟩
    · rw [hx]
    · simp [hp, hq]
  · rw [h.state_ne hq]

theorem JournalFrame.journalNotice {s t : State} (h : JournalFrame s t) (g : s.JournalNotice) : t.JournalNotice where
  cls := by
    rw [Source.cls, Source.classBits, h.words.1]
    exact g.cls
  when := fun ha => by
    rw [Source.reactWhen, h.words.2.1]
    exact g.when (h.armed.mp ha)

/-- An occurrence that is counted or kept back (R84, R85). -/
theorem journalFrame_counted {s : State} (hs : (s.src journalId).state ≠ .quiet) (count repeats : Byte) (detail : Word) :
    JournalFrame s (s.setSrc journalId
      { s.src journalId with count := count, repeatCount := repeats, detail := detail }) where
  units := rfl
  other := fun j hj => ⟨src_setSrc_ne s hj.symm _, rfl⟩
  words := by
    rw [src_setSrc_self]
    exact ⟨rfl, rfl, rfl⟩
  active := fun _ => by
    rw [src_setSrc_self]
    exact ⟨rfl, rfl, rfl⟩
  quiet := fun hq => absurd hq hs
  waiting := fun p => by
    simp only [hs, false_and, or_false]
    rfl

theorem reacted_of_ne {i : SourceId} {s : State} (h : (s.src i).reactWhen ≠ .atLatch) : s.reacted i = s := if_neg h

/-- The latch of a Quiet JOURNAL, a Notice that applies no set (R77, R81, R82). -/
theorem journalFrame_latches {s : State} (h : s.JournalNotice) (hq : (s.src journalId).state = .quiet) (d : Word)
    (hf : EngineFrame s (s.latches journalId d)) : JournalFrame s (s.latches journalId d) where
  units := by
    have hwhen : (s.src journalId).reactWhen ≠ .atLatch := by
      rw [h.when (by rw [armed_iff, hq]; decide)]
      decide
    refine (latches_eq journalId d s).trans ?_
    rw [hf.link, hf.jn, reacted_of_ne hwhen]
    refine congrArg (fun a => ({ s with link := _, srcs := _, arb := a, jn := _ } : State)) ?_
    dsimp only
    rw [← alert_latches journalId d s]
  other := fun j hj => by
    rw [src_latches, masked_latches, if_neg hj.symm, decide_eq_false hj.symm]
    exact ⟨rfl, by simp⟩
  words := hf.words journalId
  active := fun hn => absurd hq hn
  quiet := fun _ => by
    rw [src_latches, if_pos rfl, nextPosition_latches]
    exact .inr ⟨rfl, rfl, rfl, Nat.lt_succ_self _, rfl⟩
  waiting := fun p => by
    rw [mem_latches, src_latches, if_pos rfl, or_comm]
    simp [hq, latchedSource]

/-- One JOURNAL occurrence (R156). -/
theorem journalFrame_occur {w : Work} (h : w.st.JournalNotice) (d : Word) : JournalFrame w.st (occur journalId d w).st := by
  by_cases hl : w.live = true
  · cases hs : (w.st.src journalId).state with
    | disarmed =>
      rw [occur_disarmed hs]
      exact .refl _
    | quiet =>
      have hf := frame_occur journalId d w
      rw [occur_quiet hl hs, firstLatch_normal (decision_notice h.cls), normalLatch_st] at *
      exact journalFrame_latches h hs d hf
    | pending =>
      rw [occur_counted hl (.inl hs)]
      exact journalFrame_counted (by rw [hs]; decide) _ _ _
    | absorbed =>
      rw [occur_counted hl (.inr hs)]
      exact journalFrame_counted (by rw [hs]; decide) _ _ _
    | serving =>
      rw [occur_serving hl hs]
      split
      · exact journalFrame_counted (by rw [hs]; decide) _ _ _
      · exact .refl _
  · rw [occur_of_not_live (Bool.eq_false_iff.mpr hl)]
    exact .refl _

/-- The JOURNAL occurrences that wait are processed (R80). -/
theorem journalFrame_drain {w : Work} (h : w.st.JournalNotice) : JournalFrame w.st (drain w).st :=
  foldl_keeps (f := fun v d => occurJournal d v) (P := JournalFrame w.st) (w := { w with derived := [] })
    (fun _ d _ hv => hv.trans (journalFrame_occur (hv.journalNotice h) d)) (.refl _)

/-- The end of a happening: JOURNAL occurrences and the end-of-happening updates (R80, R92). -/
theorem finish_journal {w : Work} (h : w.st.JournalNotice) : ∃ u, JournalFrame w.st u ∧ finish w = endHappening u :=
  ⟨_, journalFrame_drain h, rfl⟩

/-- The end of an abandoned happening (R92, R94). -/
theorem finish_of_not_live {w : Work} (h : w.live = false) : finish w = endHappening w.st :=
  congrArg endHappening (drain_st_of_not_live h)

/-! ## A compound condition -/

/-- The state after a compound condition: the source is absorbed, and COMPOUND's entry is on top (R115 to R118). -/
def State.escalated (first i : SourceId) (detail : Word) (s : State) : State :=
  (s.absorbs i detail first).pushes first i

theorem srcs_absorbs (i : SourceId) (detail : Word) (first : SourceId) (s : State) :
    (s.absorbs i detail first).srcs = (absorbState i detail s).srcs := by
  rw [absorbs_eq]

theorem src_escalated {i : SourceId} (hi : i ≠ compoundId) (first : SourceId) (detail : Word) (s : State) (j : SourceId) :
    (s.escalated first i detail).src j =
      if compoundId = j then { s.src compoundId with state := .serving, detail := compoundPair first i }
      else if i = j then { s.src i with
        state := .absorbed, count := 1, detail := detail
        latch := some { position := s.arb.nextPosition, tick := s.tc.count } }
      else s.src j := by
  have hsrc (j : SourceId) : (s.absorbs i detail first).src j = (absorbState i detail s).src j := src_absorbs _ _ _ _ _
  rw [State.escalated, src_pushes, src_pushState, hsrc, hsrc, src_absorbState, src_absorbState, if_neg hi]

theorem escalated_eq {i : SourceId} (hi : i ≠ compoundId) (first : SourceId) (detail : Word) (s : State) :
    s.escalated first i detail = { s with
      srcs := { s.srcs with table := (s.escalated first i detail).srcs.table }
      arb := { s.arb with nextPosition := s.arb.nextPosition + 1 }
      svc := { s.svc with
        stack := { source := compoundId, announced := false, deadline := (s.src compoundId).freshServiceDeadline }
          :: s.svc.stack
        comprec0 := compoundPair first i
        comprec1 := s.tc.count.extractLsb' 0 16 }
      act := (s.escalated first i detail).act
      jn := (s.escalated first i detail).jn } := by
  have hcompound : (s.absorbs i detail first).src compoundId = s.src compoundId := by
    rw [src_absorbs, src_absorbState, if_neg hi]
  have habs := absorbs_eq i detail first s
  have hpush := pushes_eq first i (s.absorbs i detail first)
  unfold State.escalated
  generalize s.absorbs i detail first = v at hcompound habs hpush ⊢
  generalize v.jn = j at habs
  subst habs
  generalize State.pushes first i _ = t at hpush ⊢
  rw [hpush, ← hcompound]
  rfl

/-! ## What the invariants say of the internal sources -/

/-- The invariants of the engine that an occurrence needs. -/
structure State.Sound (s : State) : Prop where
  valid  : s.EventsValid
  fields : s.FieldsLegal

theorem State.Legal.sound {s : State} (h : s.Legal) : s.Sound :=
  ⟨⟨h.events, h.armed, h.atRest.bounded.armed _ (.inl rfl)⟩, h.fields⟩

theorem EngineKeeps.and {P Q : State → Prop} (h : EngineKeeps P) (g : EngineKeeps Q) : EngineKeeps fun s => P s ∧ Q s where
  journal := fun s u lost hu hs => ⟨h.journal s u lost hu hs.1, g.journal s u lost hu hs.2⟩
  bind := fun s k i hs => ⟨h.bind s k i hs.1, g.bind s k i hs.2⟩
  lock := fun s a b hs => ⟨h.lock s a b hs.1, g.lock s a b hs.2⟩
  mask := fun s i hs => ⟨h.mask s i hs.1, g.mask s i hs.2⟩
  latch := fun s i d hm hq hi hs => ⟨h.latch s i d hm hq hi hs.1, g.latch s i d hm hq hi hs.2⟩
  push := fun s i d t r hm hq hi hd ht hl hs => ⟨h.push s i d t r hm hq hi hd ht hl hs.1, g.push s i d t r hm hq hi hd ht hl hs.2⟩
  full := fun s i d a b hm hq hi hs => ⟨h.full s i d a b hm hq hi hs.1, g.full s i d a b hm hq hi hs.2⟩
  count := fun s i d hm hc hi hs => ⟨h.count s i d hm hc hi hs.1, g.count s i d hm hc hi hs.2⟩
  again := fun s i d hm hc hi hs => ⟨h.again s i d hm hc hi hs.1, g.again s i d hm hc hi hs.2⟩

theorem TickKeeps.and {P Q : State → Prop} (h : TickKeeps P) (g : TickKeeps Q) : TickKeeps fun s => P s ∧ Q s where
  engine := h.engine.and g.engine
  compare := fun s hs => ⟨h.compare s hs.1, g.compare s hs.2⟩
  top := fun s d hs => ⟨h.top s d hs.1, g.top s d hs.2⟩
  overrun := fun s i hs => ⟨h.overrun s i hs.1, g.overrun s i hs.2⟩
  entry := fun s i d hs => ⟨h.entry s i d hs.1, g.entry s i d hs.2⟩
  expired := fun s i hs => ⟨h.expired s i hs.1, g.expired s i hs.2⟩
  watchdog := fun s o hs => ⟨h.watchdog s o hs.1, g.watchdog s o hs.2⟩

theorem sound_iff (s : State) : s.Sound ↔ s.EventsValid ∧ s.FieldsLegal := ⟨fun h => ⟨h.valid, h.fields⟩, fun h => ⟨h.1, h.2⟩⟩

theorem sound_tick : TickKeeps State.Sound := by
  have h := eventsValid_tick.and fields_tick
  simpa only [← sound_iff] using h

/-- The class bits that the hardware fixes (R31, R77). -/
theorem State.Sound.classBits {s : State} (h : s.Sound) {i : SourceId} (hi : 24 ≤ i.val) (hn : i ≠ hostraiseId) :
    (s.src i).w0.extractLsb' 3 2 = if i = compoundId then 3 else if i = silenceId then 2
      else if i = overrunId ∨ i = mismatchId then 1 else 0 :=
  ((keepsFixed_iff hi _).mp (h.fields.internal i (by simp [isExternal]; omega))).2.2 hn

theorem State.Sound.cls_notice {s : State} (h : s.Sound) {i : SourceId}
    (hi : i = journalId ∨ i = staleId ∨ i = linkId) : (s.src i).cls = .notice := by
  have hb := h.classBits (i := i) (by rcases hi with rfl | rfl | rfl <;> decide) (by rcases hi with rfl | rfl | rfl <;> decide)
  rw [Source.cls, Source.classBits, hb]
  rcases hi with rfl | rfl | rfl <;> rfl

theorem State.Sound.cls_fault {s : State} (h : s.Sound) {i : SourceId}
    (hi : i = overrunId ∨ i = mismatchId) : (s.src i).cls = .fault := by
  have hb := h.classBits (i := i) (by rcases hi with rfl | rfl <;> decide) (by rcases hi with rfl | rfl <;> decide)
  rw [Source.cls, Source.classBits, hb]
  rcases hi with rfl | rfl <;> rfl

theorem State.Sound.cls_silence {s : State} (h : s.Sound) : (s.src silenceId).cls = .critical := by
  have hb := h.classBits (i := silenceId) (by decide) (by decide)
  rw [Source.cls, Source.classBits, hb]
  rfl

/-- An armed source passes every check of Arm validation (R71). -/
theorem State.Sound.checks {s : State} (h : s.Sound) {i : SourceId} (ha : (s.src i).state ≠ .disarmed) :
    ∀ b ∈ armChecks i (s.src i), b = false := by
  have hf := h.valid.armed.valid i ((armed_iff _).mpr ha)
  rw [armFault_eq, Option.map_eq_none_iff, List.findIdx?_eq_none_iff] at hf
  exact hf

/-- A Notice applies no set (R71, check 6). -/
theorem State.Sound.when_notice {s : State} (h : s.Sound) {i : SourceId} (ha : (s.src i).state ≠ .disarmed)
    (hc : (s.src i).cls = .notice) : (s.src i).reactWhen = .never := by
  have := h.checks ha ((s.src i).cls == .notice && (s.src i).reactWhen != .never) (by simp [armChecks])
  simpa [hc] using this

/-- A source that applies a set names one (R71, check 5). -/
theorem State.Sound.names_set {s : State} (h : s.Sound) {i : SourceId} (ha : (s.src i).state ≠ .disarmed)
    (hw : (s.src i).reactWhen ≠ .never) : (s.src i).reactionSet ≠ 0 := by
  have := h.checks ha (((s.src i).reactWhen == .never) != ((s.src i).reactionSet == 0)) (by simp [armChecks])
  simpa [hw] using this

/-- Only COMPOUND has the class Compound (R71, check 2). -/
theorem State.Sound.cls_ne_compound {s : State} (h : s.Sound) {i : SourceId} (ha : (s.src i).state ≠ .disarmed)
    (hi : i ≠ compoundId) : (s.src i).cls ≠ .compound := by
  have := h.checks ha (i != compoundId && (s.src i).cls == .compound) (by simp [armChecks])
  simpa [hi] using this

theorem State.Sound.journalNotice {s : State} (h : s.Sound) : s.JournalNotice where
  cls := h.cls_notice (.inl rfl)
  when := fun ha => h.when_notice ((armed_iff _).mp ha) (h.cls_notice (.inl rfl))

/-- A top of rank 3 is COMPOUND's (R88, R96). -/
theorem State.Sound.compound_of_rank {s : State} (h : s.Sound) {top : StackEntry} {rest : List StackEntry}
    (hs : s.svc.stack = top :: rest) (hr : s.rank top.source = 3) : top.source = compoundId := by
  by_contra hn
  have hserving := state_of_top h.valid.events.core hs
  have hc := h.cls_ne_compound (by rw [hserving]; decide) hn
  rw [State.rank, if_neg hn] at hr
  cases hcls : (s.src top.source).cls <;> rw [hcls] at hr hc <;> simp [classRank] at hr hc

end Sys2Proof.Machine
end

section
/-! PROOFS. The frames whose happening has an occurrence of its own: a RAISE (O37, O38, O39), a rejection (O12), and what a
full journal loses (O47). -/

namespace Sys2Proof.Machine

-- one proof after another: each thread that elaborates costs the check a GiB of its memory limit
set_option Elab.async false

/-! ## The happening of a RAISE -/

/-- The state in which the occurrence of an accepted RAISE is processed (R92, R110). -/
def State.raised (s : State) (dest : Dest) (tag : BitVec 4) : State := (s.heard dest).replied dest .done tag 0

/-- Its happening so far. -/
def raisedWork (s : State) (dest : Dest) (tag : BitVec 4) : Work :=
  (begin (s.heard dest)).map fun x => x.replied dest .done tag 0

theorem raised_eq (s : State) (dest : Dest) (tag : BitVec 4) :
    s.raised dest tag = { s with link := (s.raised dest tag).link, dl := (s.raised dest tag).dl } := by
  rw [State.raised, replied_eq, heard_eq]

theorem hold_raised (s : State) (dest : Dest) (tag : BitVec 4) : (s.raised dest tag).link.hold = none := by
  rw [State.raised, replied_eq]

theorem prev_raised (s : State) (dest : Dest) (tag : BitVec 4) :
    (s.raised dest tag).link.prev = { outcome := .done, tag := tag, data := 0 } := by
  rw [State.raised, replied_eq]

/-- A RAISE of an armed HOSTRAISE in Running is accepted (R28, R110), and its occurrence is processed after the record. -/
theorem exec_raise {s : State} {dest : Dest} (data : Word) (tag : BitVec 4) (hi : s.linkIdle) (hh : s.hears dest = true)
    (hb : s.brokenFor dest 0x18 = false) (hm : s.mc.mode = .running) (ha : (s.src hostraiseId).state ≠ .disarmed) :
    exec (.raise dest data tag) s = .next (finish (occur hostraiseId data (raisedWork s dest tag))) := by
  have hw : writeRefusal s .raise data = none := by
    rw [writeRefusal_specific (by rw [hm]; rfl) (fun _ => rfl)]
    simp [specificRefusal, (armed_iff _).mpr ha]
  have hx : executeRequest (s.heard dest) (request dest .write 0x18 data tag) .raise ((begin (s.heard dest)).map endHold)
      = ((begin (s.heard dest)).map endHold, ⟨.done, 0⟩) := by
    simp only [executeRequest, request_op, opOf_opCode, holdBroken_request, brokenFor_heard, hb,
      Bool.false_eq_true, if_false, executeWrite, map_st, begin_st, request_data, writeRefusal_heard, hw]
    rfl
  refine congrArg Host.Outcome.next ?_
  rw [sendRequest_heard tag hi hh (.inr rfl) nofun]
  simp only [reduceCtorEq, if_false, targetOf_write (show regAt 0x18 = some .raise from rfl) (by decide)]
  rw [admitFrame_eq, hx]
  have hr := recordReply_request (s.heard dest) dest .write 0x18 data tag ⟨.done, 0⟩
  have hwork : ((begin (s.heard dest)).map endHold).map (recordReply (request dest .write 0x18 data tag) ⟨.done, 0⟩)
      = raisedWork s dest tag := by
    show Work.mk _ _ _ = _
    rw [show recordReply _ _ ((begin (s.heard dest)).map endHold).st = _ from hr]
    rfl
  rw [hwork, raiseOccurrence, if_pos ⟨opOf_opCode .write, rfl, rfl⟩]
  rfl

theorem raisedWork_st (s : State) (dest : Dest) (tag : BitVec 4) : (raisedWork s dest tag).st = s.raised dest tag := rfl

theorem raisedWork_live {s : State} (hm : s.mc.mode = .running) (dest : Dest) (tag : BitVec 4) :
    (raisedWork s dest tag).live = true := by
  rw [live_iff, raisedWork_st, raised_eq]
  exact hm

theorem src_raised (s : State) (dest : Dest) (tag : BitVec 4) (i : SourceId) : (s.raised dest tag).src i = s.src i := by
  rw [raised_eq]
  rfl

theorem svc_raised (s : State) (dest : Dest) (tag : BitVec 4) : (s.raised dest tag).svc = s.svc := by rw [raised_eq]

theorem tc_raised (s : State) (dest : Dest) (tag : BitVec 4) : (s.raised dest tag).tc = s.tc := by rw [raised_eq]

theorem mc_raised (s : State) (dest : Dest) (tag : BitVec 4) : (s.raised dest tag).mc = s.mc := by rw [raised_eq]

theorem masked_raised (s : State) (dest : Dest) (tag : BitVec 4) (i : SourceId) :
    (s.raised dest tag).masked i = s.masked i := by
  rw [raised_eq]
  rfl

theorem decision_raised (s : State) (dest : Dest) (tag : BitVec 4) (i : SourceId) :
    (s.raised dest tag).decision i = s.decision i := by
  rw [raised_eq]
  rfl

/-! ## A RAISE that is counted, kept back or discarded -/

/-- Settles O38. -/
theorem raiseCountsOrIsDiscarded : Obligations.RaiseCountsOrIsDiscarded := by
  unfold Obligations.RaiseCountsOrIsDiscarded
  dsimp only
  intro s dest data tag hi hh hb hm
  have run (ha : (s.src hostraiseId).state ≠ .disarmed) := exec_raise data tag hi hh hb hm ha
  have hlive := raisedWork_live hm dest tag
  have hsrc : ((raisedWork s dest tag).st.src hostraiseId) = s.src hostraiseId := src_raised s dest tag _
  refine ⟨fun hs => ?_, fun hs hr => ?_, fun hs hr => ?_⟩
  · rw [run (by rcases hs with h | h <;> rw [h] <;> decide), occur_counted hlive (by rw [hsrc]; exact hs),
      ← satInc_eq, ← src_raised s dest tag]
    rfl
  · rw [run (by rw [hs]; decide), occur_serving hlive (by rw [hsrc]; exact hs), hsrc, if_pos hr,
      ← satInc_eq, ← src_raised s dest tag]
    rfl
  · rw [run (by rw [hs]; decide), occur_serving hlive (by rw [hsrc]; exact hs), hsrc, if_neg (by simp [hr])]
    rfl

/-! ## A RAISE that latches -/

/-- Self-mask where no register is held (R74). -/
theorem selfMask_unheld {s : State} (h : s.link.hold = none) (i : SourceId) :
    selfMask i s = { s with srcs := { s.srcs with mask := setBit s.srcs.mask i.val } } := by
  unfold selfMask
  split
  · next hm =>
    have hmask : setBit s.srcs.mask i.val = s.srcs.mask := by
      apply BitVec.eq_of_getLsbD_eq
      intro j hj
      have := getLsbD_setBit s.srcs.mask i ⟨j, hj⟩
      rw [this]
      by_cases hij : i = ⟨j, hj⟩
      · subst hij
        rw [decide_eq_true rfl, Bool.or_true]
        exact hm.symm
      · rw [decide_eq_false hij, Bool.or_false]
    rw [hmask]
  · rw [markHold_eq]
    simp only [h, Option.map_none]
    rw [← h]

/-- A RAISE of a Quiet HOSTRAISE with the normal outcome (R111). -/
theorem exec_raise_latches {s : State} {dest : Dest} {data : Word} {tag : BitVec 4} (hi : s.linkIdle)
    (hh : s.hears dest = true) (hb : s.brokenFor dest 0x18 = false) (hm : s.mc.mode = .running)
    (hq : (s.src hostraiseId).state = .quiet) (hd : s.decision hostraiseId = .normal)
    (hc : s.calm 2 ∨ (s.calm 1 ∧ (s.src hostraiseId).reactWhen ≠ .atLatch)) :
    exec (.raise dest data tag) s = .next (endHappening ((s.raised dest tag).latches hostraiseId data)) := by
  have hcalm : (raisedWork s dest tag).st.calm 2
      ∨ ((raisedWork s dest tag).st.calm 1 ∧ ((raisedWork s dest tag).st.src hostraiseId).reactWhen ≠ .atLatch) := by
    rw [raisedWork_st, raised_eq]
    exact hc
  rw [exec_raise data tag hi hh hb hm (by rw [hq]; decide), occur_quiet (raisedWork_live hm dest tag)
    (by rw [raisedWork_st, src_raised]; exact hq),
    firstLatch_normal (by rw [raisedWork_st, decision_raised]; exact hd), normalLatch_calm (by decide) hcalm]
  rfl

/-- The latch of HOSTRAISE in the words of R82, in a state with the lists and the source of another and no hold. -/
theorem latched_hostraise {s y : State} (hx : y.src hostraiseId = s.src hostraiseId) (ha : y.arb = s.arb) (ht : y.tc = s.tc)
    (hn : y.link.hold = none) (data : Word) :
    (maskedLatch hostraiseId data y).wrote .latch (some hostraiseId) data =
      let z := y.setSrc hostraiseId { s.src hostraiseId with
        state := .pending, count := 1, detail := data, expired := false
        latch := some { position := s.arb.nextPosition, tick := s.tc.count } }
      let v := { z with arb := { z.arb with
        nextPosition := s.arb.nextPosition + 1
        waiting := insertEntry z
          { source := hostraiseId
            deadline := if (s.src hostraiseId).claimDeadline = 0 then .none
              else .runningDown ((s.src hostraiseId).claimDeadline * 10) }
          s.arb.waiting } }
      State.wrote
        (if (s.src hostraiseId).selfMasks then { v with srcs := { v.srcs with mask := v.srcs.mask ||| 0x40000000 } } else v)
        .latch (some hostraiseId) data := by
  have hl : (latchState hostraiseId data y).link.hold = none := by
    rw [latchState_eq]
    exact hn
  have hs : ((latchState hostraiseId data y).src hostraiseId).selfMasks = (s.src hostraiseId).selfMasks := by
    rw [src_latchState, if_pos rfl, ← hx]
    rfl
  dsimp only
  congr 1
  rw [maskedLatch, hs, selfMask_unheld hl, latchState_eq, ← hx, ← ha, ← ht]
  rfl

/-- The outcomes of O37 are normal ones (R114). -/
theorem decision_normal {s : State} {i : SourceId}
    (h : (s.src i).cls = .notice
      ∨ ((s.src i).cls = .fault ∧ (s.severity = 0 ∨ ((s.severity = 1 ∨ s.severity = 2) ∧ s.compoundEnable = false)))
      ∨ ((s.src i).cls = .critical ∧ (s.severity = 0 ∨ s.severity = 1))) : s.decision i = .normal := by
  rcases h with h | ⟨h, hs | ⟨hs, he⟩⟩ | ⟨h, hs⟩
  · exact decision_notice h
  · rw [decision_fault h, if_pos hs]
  · rw [decision_fault h, if_neg (by omega), if_pos hs, he]
    rfl
  · rw [decision_critical h, if_pos hs]

/-- A binding with a source that joins it, in the words of R141. -/
theorem bind_eq (k : ReactionSet) (i : SourceId) :
    k.bind i = { k with
      binding := some (if i ∈ k.binding.getD [] then k.binding.getD [] else k.binding.getD [] ++ [i]) } := by
  unfold ReactionSet.bind
  simp only [List.contains_iff_mem]

/-- The binding and the capture of a reaction in the words of R141. -/
theorem bindSet_eq (k : SetId) (i : SourceId) (s : State) :
    bindSet k i s =
      let fresh := (s.set k).freezes &&& ~~~s.act.frozen
      let y := s.putSet k { s.set k with
        binding := some (if i ∈ (s.set k).binding.getD [] then (s.set k).binding.getD [] else (s.set k).binding.getD [] ++ [i]) }
      { y with act := { y.act with
        frozen := s.act.frozen ||| fresh
        frozenLevel := (s.act.frozenLevel &&& ~~~fresh) ||| (s.act.effective &&& fresh) } } := by
  rw [bindSet, bind_eq, captureFreezes, set_putSet_self]
  rfl

/-- Settles O37. -/
theorem raiseLatchesNotice : Obligations.RaiseLatchesNotice := by
  unfold Obligations.RaiseLatchesNotice
  dsimp only
  intro s dest data tag hi hh hb hm hq hcase
  have hd := decision_normal hcase
  have hx := src_raised s dest tag hostraiseId
  refine ⟨fun hw hc => ?_, fun hw hset hc => ?_⟩
  · rw [exec_raise_latches hi hh hb hm hq hd (.inr ⟨hc, hw⟩), State.latches, reacted_of_ne (by rw [hx]; exact hw)]
    refine congrArg (fun t => Host.Outcome.next (endHappening t)) (latched_hostraise hx ?_ ?_ (hold_raised s dest tag) data)
    · rw [raised_eq]
    · rw [raised_eq]
  · refine ⟨(s.set (setOf (s.src hostraiseId).reactionSet.toNat)).freezes &&& ~~~s.act.frozen, fun c => ?_, ?_⟩
    · rw [BitVec.getLsbD_and, BitVec.getLsbD_not, Bool.and_eq_true, getLsbD_freezes]
      simp [c.isLt]
    · have hr : (s.raised dest tag).reacted hostraiseId = (s.raised dest tag).applied hostraiseId := if_pos (by rw [hx]; exact hw)
      rw [exec_raise_latches hi hh hb hm hq hd (.inl hc), State.latches, hr]
      refine congrArg (fun t => Host.Outcome.next (endHappening t)) ?_
      rw [latched_hostraise (s := s)]
      · rw [State.applied, hx, if_neg hset, bindSet_eq, show (s.raised dest tag).set _ = s.set _ by rw [raised_eq]; rfl,
          show (s.raised dest tag).act = s.act by rw [raised_eq]]
        rfl
      · rw [applied_eq]
        exact hx
      · rw [applied_eq, raised_eq]
      · rw [applied_eq, raised_eq]
      · rw [applied_eq]
        exact hold_raised s dest tag

/-! ## A RAISE that escalates -/

theorem sound_raised {s : State} (h : s.Sound) (dest : Dest) (tag : BitVec 4) : (s.raised dest tag).Sound := by
  rw [raised_eq]
  exact ⟨h.valid.of_units rfl rfl rfl rfl (.inl rfl), h.fields.of_same (.of_units rfl rfl rfl rfl)⟩

/-- The severity over a top of a Sound state is its rank (R113). -/
theorem State.Sound.severity_top {s : State} (h : s.Sound) {top : StackEntry} {rest : List StackEntry}
    (hs : s.svc.stack = top :: rest) : s.severity = s.rank top.source :=
  severity_eq_rank_top h.valid.events.nested hs

/-- The second source of a lockdown by a first latch is the source of the top (R123). -/
theorem State.Sound.secondSource_top {s : State} (h : s.Sound) {top : StackEntry} {rest : List StackEntry}
    (hs : s.svc.stack = top :: rest) {cause : BitVec 4} (hc : cause = 1 ∨ s.rank top.source = 3) :
    s.secondSource cause = sourceBits top.source := by
  have hfield : s.stackField 0 = sourceBits top.source := by
    rw [State.stackField, hs]
    rfl
  unfold State.secondSource
  split
  · exact hfield
  · next hn => rw [h.compound_of_rank hs (hc.resolve_left hn)]

/-- A happening that an occurrence has escalated to a compound condition, and its end (R115 to R118). -/
theorem finish_escalated {w : Work} (hw : w.st.Sound) (hl : w.live = true) {i : SourceId} (hi : i ≠ compoundId)
    (hq : (w.st.src i).state = .quiet) (hd : w.st.decision i = .compound) {top : StackEntry} {rest : List StackEntry}
    (hs : w.st.svc.stack = top :: rest) (hlen : w.st.svc.stack.length < Config.stackLimit) (detail : Word) :
    ∃ u, JournalFrame (w.st.escalated top.source i detail) u ∧ finish (occur i detail w) = endHappening u := by
  have hst : (occur i detail w).st = w.st.escalated top.source i detail := by
    rw [occur_quiet hl hq, firstLatch_compound hd, compoundLatch_st hs, if_pos (by rw [absorbs_eq]; exact hlen)]
    rfl
  have hsound := sound_tick.engine.occur hw hi detail
  obtain ⟨u, hu, he⟩ := finish_journal hsound.journalNotice
  rw [hst] at hu
  exact ⟨u, hu, he⟩

/-- The units after a compound condition and the JOURNAL occurrences that follow it. -/
structure EscalatedFrom (s : State) (first i : SourceId) (detail : Word) (u : State) : Prop where
  prev     : u.link.prev = s.link.prev
  mc       : u.mc = s.mc
  svc      : u.svc = { s.svc with
    stack := { source := compoundId, announced := false, deadline := (s.src compoundId).freshServiceDeadline }
      :: s.svc.stack
    comprec0 := compoundPair first i
    comprec1 := s.tc.count.extractLsb' 0 16 }
  source   : u.src i = { s.src i with
    state := .absorbed, count := 1, detail := detail
    latch := some { position := s.arb.nextPosition, tick := s.tc.count } }
  compound : u.src compoundId = { s.src compoundId with state := .serving, detail := compoundPair first i }
  masked   : u.masked i = s.masked i

theorem escalatedFrom_of_journal {s u : State} {first i : SourceId} {detail : Word} (hi : i ≠ compoundId)
    (hj : i ≠ journalId) (h : JournalFrame (s.escalated first i detail) u) : EscalatedFrom s first i detail u := by
  have he := escalated_eq hi first detail s
  have hx := src_escalated hi first detail s
  refine ⟨h.prev.trans ?_, h.mc.trans ?_, h.svc.trans ?_, (h.other i hj).1.trans ?_,
    (h.other compoundId (by decide)).1.trans ?_, (h.other i hj).2.trans ?_⟩
  · rw [he]
  · rw [he]
  · rw [he]
  · rw [hx, if_neg hi.symm, if_pos rfl]
  · rw [hx, if_pos rfl]
  · rw [he]
    rfl

/-- The units after an absorption over a full stack, which locks the node down (R116, R123, cause 4). -/
structure OverfullFrom (s : State) (i : SourceId) (detail : Word) (second : BitVec 5) (u : State) : Prop where
  prev    : u.link.prev = s.link.prev
  mode    : u.mc.mode = .lockdown
  lockrec : u.mc.lockrec = 4#4 ++ 0#2 ++ sourceBits i ++ second
  svc     : u.svc = s.svc
  dl      : u.dl = s.dl
  source  : u.src i = { s.src i with
    state := .absorbed, count := 1, detail := detail
    latch := some { position := s.arb.nextPosition, tick := s.tc.count } }
  other   : ∀ j, i ≠ j → u.src j = s.src j
  masked  : u.masked i = s.masked i

theorem overfullFrom_locked (s : State) (i : SourceId) (detail : Word) (partner : SourceId) (second : BitVec 5) :
    OverfullFrom s i detail second ((s.absorbs i detail partner).lockedBy 4 (some i) second) := by
  have hx := fun j => (src_absorbs i detail partner s j).trans (src_absorbState i detail s j)
  have he := absorbs_eq i detail partner s
  generalize s.absorbs i detail partner = v at hx he ⊢
  have hv := lockedBy_eq 4 (some i) second v
  generalize v.lockedBy 4 (some i) second = u at hv ⊢
  have hsrc (j : SourceId) : u.src j = v.src j := by
    rw [hv]
    rfl
  refine ⟨?_, ?_, ?_, ?_, ?_, ?_, fun j hj => ?_, ?_⟩
  · rw [hv, he]
  · rw [hv]
  · rw [hv]
    rfl
  · rw [hv, he]
  · rw [hv, he]
  · rw [hsrc, hx, if_pos rfl]
  · rw [hsrc, hx, if_neg hj]
  · rw [hv, he]
    rfl

/-- A happening that an occurrence has escalated over a full stack (R116, R123, cause 4). -/
theorem finish_overfull {w : Work} (hl : w.live = true) {i : SourceId}
    (hq : (w.st.src i).state = .quiet) (hd : w.st.decision i = .compound) {top : StackEntry} {rest : List StackEntry}
    (hs : w.st.svc.stack = top :: rest) (hlen : ¬w.st.svc.stack.length < Config.stackLimit) (detail : Word) :
    finish (occur i detail w) =
      endHappening ((w.st.absorbs i detail top.source).lockedBy 4 (some i) (sourceBits top.source)) := by
  have hst : (occur i detail w).st = (w.st.absorbs i detail top.source).lockedBy 4 (some i) (sourceBits top.source) := by
    rw [occur_quiet hl hq, firstLatch_compound hd, compoundLatch_st hs, if_neg (by rw [absorbs_eq]; exact hlen)]
  rw [finish_of_not_live, hst]
  rw [Work.live, hst, lockedBy_eq]
  rfl

/-- A happening that an occurrence has locked down at once (R114, R123). -/
theorem finish_locked {w : Work} (hl : w.live = true) {i : SourceId} (hq : (w.st.src i).state = .quiet)
    {cause : BitVec 4} (hd : w.st.decision i = .lockdown cause) (detail : Word) :
    finish (occur i detail w) =
      endHappening (w.st.lockedBy cause (some i) (w.st.secondSource cause)) := by
  rw [occur_quiet hl hq, firstLatch_lockdown hd, finish_of_not_live (enterLockdown_live _ _ _ _), enterLockdown_locked]

/-- Settles O39. -/
theorem raiseEscalates : Obligations.RaiseEscalates := by
  unfold Obligations.RaiseEscalates
  dsimp only
  intro s dest data tag top rest hleg hi hh hb hm hq hs
  have hsound := sound_raised hleg.sound dest tag
  have hlive := raisedWork_live hm dest tag
  have hq' : ((raisedWork s dest tag).st.src hostraiseId).state = .quiet := by
    rw [raisedWork_st, src_raised]
    exact hq
  have hs' : (raisedWork s dest tag).st.svc.stack = top :: rest := by
    rw [raisedWork_st, raised_eq]
    exact hs
  have run := exec_raise data tag hi hh hb hm (by rw [hq]; decide)
  have hsev := hleg.sound.severity_top hs
  refine ⟨fun hc he hr => ?_, fun cause hcase => ?_⟩
  · have hd : (raisedWork s dest tag).st.decision hostraiseId = .compound := by
      rw [raisedWork_st, decision_raised, decision_fault hc, hsev, if_neg (by omega), if_pos hr, if_pos he]
    by_cases hlen : rest.length < 3
    · obtain ⟨u, hu, hx⟩ := finish_escalated hsound hlive (by decide) hq' hd hs' (by rw [hs']; exact Nat.succ_lt_succ hlen) data
      have hfrom := escalatedFrom_of_journal (by decide) (by decide) hu
      obtain ⟨hprev, hmc, hsvc, hraise, hcompound, hmask⟩ := hfrom
      rw [raisedWork_st, svc_raised, src_raised, tc_raised] at hsvc
      have hmode : u.mc.mode = .running := by rw [hmc, raisedWork_st, mc_raised]; exact hm
      refine ⟨_, run.trans (congrArg Host.Outcome.next hx), hprev.trans (prev_raised s dest tag), congrArg Source.state hraise,
        congrArg Source.count hraise, congrArg Source.detail hraise, hmask.trans (masked_raised s dest tag _),
        fun _ => ⟨hmode, ?_, congrArg ServiceUnit.stack hsvc, congrArg ServiceUnit.comprec0 hsvc,
          congrArg ServiceUnit.comprec1 hsvc, congrArg Source.state hcompound,
          (congrArg Source.detail hcompound).trans (congrArg ServiceUnit.comprec0 hsvc).symm⟩,
        fun h3 => absurd h3 (by omega)⟩
      rw [endHappening_alert, alertCondition_iff, hsvc]
      exact .inr ⟨hmode, .inr ⟨_, List.mem_cons_self, rfl, rfl⟩⟩
    · have hfull : ¬(raisedWork s dest tag).st.svc.stack.length < Config.stackLimit := by
        rw [hs']
        exact fun h => hlen (Nat.lt_of_succ_lt_succ h)
      have hfrom := overfullFrom_locked (s.raised dest tag) hostraiseId data top.source (sourceBits top.source)
      have hx := finish_overfull hlive hq' hd hs' hfull data
      rw [raisedWork_st] at hx
      generalize State.lockedBy _ _ _ _ = u at hfrom hx
      exact ⟨_, run.trans (congrArg Host.Outcome.next hx),
        hfrom.prev.trans (prev_raised s dest tag), congrArg Source.state hfrom.source, congrArg Source.count hfrom.source,
        congrArg Source.detail hfrom.source, hfrom.masked.trans (masked_raised s dest tag _), fun h3 => absurd h3 hlen,
        fun _ => ⟨hfrom.mode, hfrom.svc.trans (svc_raised s dest tag), hfrom.lockrec⟩⟩
  · have hd : (raisedWork s dest tag).st.decision hostraiseId = .lockdown cause := by
      rw [raisedWork_st, decision_raised]
      rcases hcase with ⟨hc, hr, rfl⟩ | ⟨hc, hr, rfl⟩ | ⟨hc, hr, rfl⟩
      · rw [decision_critical hc, hsev, hr]
        rfl
      · rw [decision_fault hc, hsev, hr]
        rfl
      · rw [decision_critical hc, hsev, hr]
        rfl
    have hsecond : (s.raised dest tag).secondSource cause = sourceBits top.source := by
      refine hsound.secondSource_top hs' ?_
      rcases hcase with ⟨-, -, rfl⟩ | ⟨-, hr, -⟩ | ⟨-, hr, -⟩
      · exact .inl rfl
      · exact .inr (by rw [raised_eq]; exact hr)
      · exact .inr (by rw [raised_eq]; exact hr)
    rw [run, finish_locked hlive hq' hd, raisedWork_st, hsecond, lockedBy_eq]
    refine ⟨_, rfl, prev_raised s dest tag, rfl, rfl, ?_, rfl, ?_, ?_, ?_, ?_, ?_, ?_⟩
    · rw [endHappening_alert, alertCondition_iff]
      exact .inl rfl
    · show (s.raised dest tag).tc.count.extractLsb' 0 16 = _
      rw [tc_raised]
    · show (s.raised dest tag).srcs = _
      rw [raised_eq]
    · show (s.raised dest tag).arb.waiting = _
      rw [raised_eq]
    · exact svc_raised s dest tag
    · show (s.raised dest tag).act.sets = _
      rw [raised_eq]
    · rw [endHappening_act_effective, effectiveWord_of_not_running (by show Mode.lockdown ≠ .running; decide)]
      show (s.raised dest tag).act.safe = _
      rw [raised_eq]

/-! ## A latch and its end -/

/-- The units after a first latch with the normal outcome and the JOURNAL occurrences that follow it (R82). -/
structure LatchedFrom (s : State) (i : SourceId) (detail : Word) (u : State) : Prop where
  prev    : u.link.prev = s.link.prev
  mc      : u.mc = s.mc
  svc     : u.svc = s.svc
  dl      : u.dl = s.dl
  source  : u.src i = latchedSource i detail s
  other   : ∀ j, j ≠ i → j ≠ journalId → u.src j = s.src j
  journal : JournalFrame (s.latches i detail) u
  joined  : { source := i, deadline := (s.src i).freshClaimDeadline } ∈ u.arb.waiting
  stays   : ∀ p ∈ s.arb.waiting, p ∈ u.arb.waiting
  binds   : (s.src i).reactWhen = .atLatch → (s.src i).reactionSet ≠ 0 →
    ∃ b, (u.set (setOf (s.src i).reactionSet.toNat)).binding = some b ∧ i ∈ b
  sets    : (s.src i).reactWhen ≠ .atLatch → u.act = s.act

theorem prev_maskedLatch (i : SourceId) (detail : Word) (s : State) :
    (maskedLatch i detail s).link.prev = s.link.prev := by
  rw [maskedLatch, latchState_eq]
  split
  · rw [selfMask]
    split
    · rfl
    · rw [markHold_eq]
      rfl
  · rfl

theorem prev_latches (i : SourceId) (detail : Word) (s : State) : (s.latches i detail).link.prev = s.link.prev := by
  rw [State.latches, wrote_eq]
  refine (prev_maskedLatch _ _ _).trans ?_
  rw [reacted_eq]

theorem latchedFrom_of_journal {s u : State} {i : SourceId} {detail : Word} (hj : i ≠ journalId)
    (h : JournalFrame (s.latches i detail) u) : LatchedFrom s i detail u where
  prev := h.prev.trans (prev_latches i detail s)
  mc := h.mc.trans (by rw [latches_eq])
  svc := h.svc.trans (by rw [latches_eq])
  dl := h.dl.trans (by rw [latches_eq])
  source := (h.other i hj).1.trans (by rw [src_latches, if_pos rfl])
  other := fun j hji hjj => (h.other j hjj).1.trans (by rw [src_latches, if_neg hji.symm])
  journal := h
  joined := (h.waiting _).mpr (.inl ((mem_latches _ _ _ _).mpr (.inl rfl)))
  stays := fun p hp => (h.waiting _).mpr (.inl ((mem_latches _ _ _ _).mpr (.inr hp)))
  binds := fun hw hs => by
    rw [h.set]
    exact latches_binds hs hw detail
  sets := fun hw => h.act.trans (by rw [latches_eq, reacted_of_ne hw])

/-- A happening in which an occurrence has latched its source, and its end (R82). -/
theorem finish_latched {w : Work} (hw : w.st.Sound) (hl : w.live = true) {i : SourceId} (hi : i ≠ compoundId)
    (hj : i ≠ journalId) (hq : (w.st.src i).state = .quiet) (hd : w.st.decision i = .normal) (detail : Word) :
    ∃ u, LatchedFrom w.st i detail u ∧ finish (occur i detail w) = endHappening u := by
  have hst : (occur i detail w).st = w.st.latches i detail := by
    rw [occur_quiet hl hq, firstLatch_normal hd, normalLatch_st]
  obtain ⟨u, hu, he⟩ := finish_journal (sound_tick.engine.occur hw hi detail).journalNotice
  rw [hst] at hu
  exact ⟨u, latchedFrom_of_journal hj hu, he⟩

/-! ## Rejections -/

/-- The state in which the LINK occurrence of a rejection is processed (R14, step 5). -/
def State.rejected (s : State) (cause : FrameOutcome) (tag : BitVec 4) (index : Byte) (m : Nat) (f : Frame48) : State :=
  recordRejection cause tag index (s.sampled m f)

theorem rejected_eq (s : State) (cause : FrameOutcome) (tag : BitVec 4) (index : Byte) (m : Nat) (f : Frame48) :
    s.rejected cause tag index m f = { s with link := (s.rejected cause tag index m f).link } := by
  unfold State.rejected State.sampled
  split <;> rfl

/-- Each of the four checks that fails has its outcome (R8 to R13, R20). -/
theorem exec_frameRejection {s : State} {m : Nat} {f : Frame48} {code : Word} (hi : s.linkIdle)
    (h : (code = 8 ∧ m ≠ 0 ∧ m ≠ 48)
      ∨ (code = 9 ∧ m = 48 ∧ ¬crc8 (bytes5 (f.extractLsb' 8 40)) = f.extractLsb' 0 8)
      ∨ (code = 10 ∧ m = 48 ∧ crc8 (bytes5 (f.extractLsb' 8 40)) = f.extractLsb' 0 8 ∧ (parseFrame f).formFault = true)
      ∨ (code = 11 ∧ m = 48 ∧ crc8 (bytes5 (f.extractLsb' 8 40)) = f.extractLsb' 0 8 ∧ (parseFrame f).formFault = false
        ∧ s.addressed (parseFrame f) = true ∧ (parseFrame f).op ≠ 0 ∧ targetOf (parseFrame f) = none)) :
    ∃ cause tag index, outcomeCode cause = code.extractLsb' 0 4
      ∧ exec (.frameRejection m f) s = .next (finish (occur linkId code
          ((begin (s.sampled m f)).map (recordRejection cause tag index)))) := by
  have run (h : m ≠ 0) : exec (.frameRejection m f) s =
      .next (completeFrame (m = 48) (f >>> (48 - min 49 m)) (s.sampled m f)) :=
    congrArg Host.Outcome.next (hostFrame_idle hi h f)
  have whole (h : m = 48) : exec (.frameRejection m f) s = .next (completeFrame true f (s.sampled m f)) := by
    subst h
    rw [run (by decide), show f >>> (48 - min 49 48) = f from BitVec.ushiftRight_zero _]
    rfl
  rcases h with ⟨rfl, h0, h48⟩ | ⟨rfl, h48, hc⟩ | ⟨rfl, h48, hc, hf⟩ | ⟨rfl, h48, hc, hf, ha, ho, ht⟩
  · refine ⟨.rejectedLength, 0, 0, rfl, ?_⟩
    rw [run h0, completeFrame, if_pos (by simp [h48])]
    rfl
  · have hcrc : (parseFrame f).crcOk = false := Bool.eq_false_iff.mpr fun h => hc ((crcOk_parseFrame f).mp h)
    refine ⟨.rejectedCheck, (parseFrame f).tag, (parseFrame f).index, rfl, ?_⟩
    rw [whole h48, completeFrame, if_neg (by decide), if_pos (by simp [hcrc])]
    rfl
  · have hcrc := (crcOk_parseFrame f).mpr hc
    refine ⟨.rejectedForm, (parseFrame f).tag, (parseFrame f).index, rfl, ?_⟩
    rw [whole h48, completeFrame, if_neg (by decide), if_neg (by simp [hcrc]), if_pos hf]
    rfl
  · have hcrc := (crcOk_parseFrame f).mpr hc
    have haddr : (s.sampled m f).addressed (parseFrame f) = true := by
      rw [← ha]
      unfold State.sampled
      split <;> rfl
    have hop : opOf (parseFrame f).op ≠ .probe := fun h => ho ((opOf_eq_probe _).mp h)
    refine ⟨.rejectedTarget, (parseFrame f).tag, (parseFrame f).index, rfl, ?_⟩
    rw [whole h48, completeFrame, if_neg (by decide), if_neg (by simp [hcrc]), if_neg (by simp [hf]),
      if_neg (by simp [haddr]), if_neg hop, ht]
    rfl

/-- Settles O12: LINK is a Notice, so that its first latch is normal whatever the stack holds (R77, R114). -/
theorem rejectionRaisesLink : Obligations.RejectionRaisesLink := by
  unfold Obligations.RejectionRaisesLink
  dsimp only
  intro s m f code hleg hi hm hcase
  obtain ⟨cause, tag, index, hcode, hx⟩ := exec_frameRejection hi hcase
  have hst : ((begin (s.sampled m f)).map (recordRejection cause tag index)).st = s.rejected cause tag index m f := rfl
  have hprev : (s.rejected cause tag index m f).link.prev.outcome = cause := rfl
  have hunits := rejected_eq s cause tag index m f
  generalize s.rejected cause tag index m f = y at hst hprev hunits
  have hnil : ((begin (s.sampled m f)).map (recordRejection cause tag index)).derived = [] := rfl
  generalize (begin (s.sampled m f)).map (recordRejection cause tag index) = w at hst hx hnil
  subst hst
  have hsrc (i : SourceId) : w.st.src i = s.src i := by rw [hunits]; rfl
  have hsound : w.st.Sound := by
    rw [hunits]
    exact ⟨hleg.sound.valid.of_units rfl rfl rfl rfl (.inl rfl), hleg.sound.fields.of_same (.of_units rfl rfl rfl rfl)⟩
  have hlive : w.live = true := by
    rw [live_iff, hunits]
    exact hm
  have hlist : w.st.arb.waiting = s.arb.waiting := by rw [hunits]
  have hsvc : w.st.svc = s.svc := by rw [hunits]
  have hout : outcomeCode w.st.link.prev.outcome = code.extractLsb' 0 4 := by rw [hprev, hcode]
  refine ⟨fun hq => ?_, fun hp => ?_, fun hv => ?_⟩
  · have hd := decision_notice (hsound.cls_notice (.inr (.inr rfl)))
    obtain ⟨u, hu, he⟩ := finish_latched hsound hlive (by decide) (by decide) (by rw [hsrc]; exact hq) hd code
    refine ⟨_, hx.trans (congrArg Host.Outcome.next he), ?_, congrArg Source.state hu.source,
      congrArg Source.count hu.source, congrArg Source.detail hu.source, ?_, ?_⟩
    · rw [endHappening_link, hu.prev, hout]
    · rw [endHappening_mc, hu.mc, hunits, hm]
    · rw [endHappening_svc, hu.svc, hunits]
  · rw [occur_counted hlive (by rw [hsrc]; exact .inl hp), finish_of_nil (by exact hnil)] at hx
    refine ⟨_, hx, hout, hlist, ?_⟩
    rw [← satInc_byte, ← hsrc, map_st, endHappening_srcs, countOccurrence, hunits]
    rfl
  · rw [occur_serving hlive (by rw [hsrc]; exact hv), hsrc] at hx
    refine ⟨finish (if (s.src linkId).repeats = true then w.map (countRepeat linkId code) else w), hx, ?_⟩
    split
    · next hr =>
      rw [finish_of_nil (by exact hnil)]
      refine ⟨hout, hlist, hsvc, fun _ => ?_, fun h => ?_⟩
      · rw [← satInc_byte, ← hsrc, map_st, endHappening_srcs, countRepeat, hunits]
        rfl
      · rw [Source.repeats, h] at hr
        cases hr
    · next hr =>
      rw [finish_of_nil hnil]
      exact ⟨hout, hlist, hsvc, fun h => absurd h hr, fun _ => by rw [endHappening_srcs, hunits]⟩

end Sys2Proof.Machine
end

section
/-! PROOFS. What a full journal loses, and the JOURNAL occurrence that the loss calls for (O47). -/

namespace Sys2Proof.Machine

-- one proof after another: each thread that elaborates costs the check a GiB of its memory limit
set_option Elab.async false

theorem forced_iff (k : RecordKind) : k.forced = true ↔ k = .absorb ∨ k = .compound ∨ k = .lockdown := by
  cases k <;> decide

/-- An admitted record that meets a full journal (R155, R156). -/
theorem writeRecord_full {w : Work} {k : RecordKind} {source : Option SourceId} (detail : Word)
    (hl : w.st.jn.unread.length = 48) (ha : w.st.recordAdmitted k source = true) :
    writeRecord k source detail w =
      { w with
        st := w.st.wrote k source detail
        derived :=
          if (w.st.src journalId).armed = true ∧ w.startedRunning = true ∧ w.st.mc.mode = .running then
            w.derived ++ [(if w.st.jn.lost = 255 then (255 : Byte) else w.st.jn.lost + 1).zeroExtend 16]
          else w.derived } := by
  have hst := writeRecord_wrote k source detail w
  have hstarted := writeRecord_startedRunning k source detail w
  have hderived : (writeRecord k source detail w).derived =
      if (w.st.src journalId).armed = true ∧ w.startedRunning = true ∧ w.st.mc.mode = .running then
        w.derived ++ [(if w.st.jn.lost = 255 then (255 : Byte) else w.st.jn.lost + 1).zeroExtend 16]
      else w.derived := by
    have hlost (v : Work) (hv : v.derived = w.derived) (hs : v.startedRunning = w.startedRunning)
        (hm : v.st.mc = w.st.mc) (hx : v.st.srcs = w.st.srcs) (hj : v.st.jn.lost = w.st.jn.lost) :
        (loseRecord v).derived = if (w.st.src journalId).armed = true ∧ w.startedRunning = true ∧ w.st.mc.mode = .running
          then w.derived ++ [(if w.st.jn.lost = 255 then (255 : Byte) else w.st.jn.lost + 1).zeroExtend 16]
          else w.derived := by
      have hcall : ((v.st.src journalId).armed && v.startedRunning && v.live) = true ↔
          (w.st.src journalId).armed = true ∧ w.startedRunning = true ∧ w.st.mc.mode = .running := by
        simp only [State.src, hx, hs, Bool.and_eq_true, live_iff, hm, and_assoc]
      rw [loseRecord, satInc_byte, hj, hv]
      exact if_congr hcall rfl rfl
    rw [writeRecord, if_pos ha, joinJournal, if_neg (by rw [hl]; decide)]
    split
    · exact hlost _ rfl rfl rfl rfl rfl
    split
    · exact hlost _ rfl rfl rfl rfl rfl
    · exact hlost _ rfl rfl rfl rfl rfl
  generalize writeRecord k source detail w = v at hst hstarted hderived
  rcases v with ⟨a, b, c⟩
  simp only at hst hstarted hderived
  rw [hst, hstarted, hderived]

/-- The journal after a record that it has no room for (R155, R156). -/
theorem jn_wrote_full {s : State} {k : RecordKind} {source : Option SourceId} (detail : Word)
    (hl : s.jn.unread.length = 48) (ha : s.recordAdmitted k source = true) :
    s.wrote k source detail = { s with jn := { s.jn with
      lost := if s.jn.lost = 255 then 255 else s.jn.lost + 1
      unread :=
        if s.overwriteOldest then s.jn.unread.drop 1 ++ [s.record k source detail]
        else if k.forced then s.jn.unread.dropLast ++ [s.record k source detail]
        else s.jn.unread } } := by
  unfold State.wrote
  dsimp only
  rw [if_pos ha, if_neg (by rw [hl]; decide)]

theorem length_wrote {s : State} (hl : s.jn.unread.length = 48) (k : RecordKind) (source : Option SourceId) (detail : Word) :
    (s.wrote k source detail).jn.unread.length = 48 := by
  by_cases ha : s.recordAdmitted k source = true
  · rw [jn_wrote_full detail hl ha]
    dsimp only
    split
    · simp [hl]
    split
    · simp [hl]
    · exact hl
  · rw [State.wrote]
    simp only [ha]
    exact hl

/-- The one occurrence that waits at the end (R80, R156). -/
theorem finish_of_one {w : Work} {d : Word} (h : w.derived = [d]) :
    finish w = endHappening (occur journalId d { w with derived := [] }).st := by
  rw [finish, drain_of_one h]
  rfl

/-- The latch of JOURNAL, which applies no set, in the words of R82. -/
theorem latches_journal {s : State} (hw : (s.src journalId).reactWhen = .never) (detail : Word) :
    s.latches journalId detail =
      let z := s.setSrc journalId { s.src journalId with
        state := .pending, count := 1, detail := detail, expired := false
        latch := some { position := s.arb.nextPosition, tick := s.tc.count } }
      let v := { z with arb := { z.arb with
        nextPosition := s.arb.nextPosition + 1
        waiting := insertEntry z
          { source := journalId
            deadline := if (s.src journalId).claimDeadline = 0 then .none
              else .runningDown ((s.src journalId).claimDeadline * 10) }
          s.arb.waiting } }
      State.wrote
        (if (s.src journalId).selfMasks && !s.masked journalId then
          markHold 0x0B { v with srcs := { v.srcs with mask := v.srcs.mask ||| 0x08000000 } }
        else v)
        .latch (some journalId) detail := by
  have hs : ((latchState journalId detail s).src journalId).selfMasks = (s.src journalId).selfMasks := by
    rw [src_latchState, if_pos rfl]
    rfl
  have hm : (latchState journalId detail s).masked journalId = s.masked journalId := by
    rw [latchState_eq]
    rfl
  rw [State.latches, reacted_of_ne (by rw [hw]; decide), maskedLatch, hs, selfMask, hm]
  dsimp only
  congr 1
  rw [latchState_eq]
  cases (s.src journalId).selfMasks <;> cases s.masked journalId <;> rfl

/-- The occurrence that waits, by JOURNAL's state (R81 to R85, R156). -/
theorem finish_journal_occurrence {w : Work} {detail : Word} (h : w.derived = [detail]) :
    ((w.st.mc.mode ≠ .running ∨ (w.st.src journalId).state = .disarmed → finish w = endHappening w.st)
      ∧ (w.st.mc.mode = .running →
        ((w.st.src journalId).state = .pending ∨ (w.st.src journalId).state = .absorbed →
          finish w = endHappening (countOccurrence journalId detail w.st))
        ∧ ((w.st.src journalId).state = .serving →
          finish w = endHappening (if (w.st.src journalId).repeats then countRepeat journalId detail w.st else w.st))
        ∧ ((w.st.src journalId).state = .quiet → (w.st.src journalId).cls = .notice →
          finish w = endHappening (w.st.latches journalId detail)))) := by
  rw [finish_of_one h]
  refine ⟨fun hn => ?_, fun hm => ?_⟩
  · rcases hn with hn | hn
    · rw [occur_of_not_live (by simpa [Work.live] using hn)]
    · rw [occur_disarmed (w := { w with derived := [] }) hn]
  · have hl : ({ w with derived := [] } : Work).live = true := (live_iff _).mpr hm
    refine ⟨fun hs => ?_, fun hs => ?_, fun hs hc => ?_⟩
    · rw [occur_counted hl hs]
      rfl
    · rw [occur_serving hl hs, apply_ite Work.st]
      rfl
    · rw [occur_quiet hl hs, firstLatch_normal (w := { w with derived := [] }) (decision_notice hc),
        normalLatch_st]

/-- The state after a Release whose record is lost, before the JOURNAL occurrence (R145, R156). -/
def State.releasedFull (s : State) (dest : Dest) (data : Word) (tag : BitVec 4) : State :=
  ((dropSet (setOf data.toNat) (s.heard dest)).wrote .reactRelease none data).replied dest .done tag 0

theorem releasedFull_eq (s : State) (dest : Dest) (data : Word) (tag : BitVec 4) :
    s.releasedFull dest data tag = { s with
      link := (s.releasedFull dest data tag).link
      dl := (s.releasedFull dest data tag).dl
      act := (dropSet (setOf data.toNat) (s.heard dest)).act
      jn := (s.wrote .reactRelease none data).jn } := by
  have hjn : ((dropSet (setOf data.toNat) (s.heard dest)).wrote .reactRelease none data).jn
      = (s.wrote .reactRelease none data).jn := by
    rw [heard_eq]
    exact jn_wrote_congr (s := s) _ _ _ rfl rfl rfl rfl
  rw [State.releasedFull, replied_eq, ← hjn, wrote_eq]
  have hd : dropSet (setOf data.toNat) (s.heard dest) = { s with
      link := (s.heard dest).link, act := (dropSet (setOf data.toNat) (s.heard dest)).act } := by
    rw [heard_eq]
    rfl
  generalize dropSet (setOf data.toNat) (s.heard dest) = v at hd ⊢
  rw [hd]
  rfl

/-- An accepted Release while the journal is full (R145, R156). -/
theorem exec_release_full {s : State} {dest : Dest} {data : Word} (tag : BitVec 4) {b : List SourceId} (hi : s.linkIdle)
    (hh : s.hears dest = true) (hb : s.brokenFor dest 0x26 = false) (hm : s.mc.mode = .running)
    (hw : writeRefusal s .release data = none) (hk : (s.set (setOf data.toNat)).binding = some b)
    (hl : s.jn.unread.length = 48) (hf : s.jn.filter.getLsbD 8 = true) :
    exec (.release dest data tag) s = .next (finish
      { st := s.releasedFull dest data tag
        startedRunning := true
        derived := if (s.src journalId).armed = true
          then [(if s.jn.lost = 255 then (255 : Byte) else s.jn.lost + 1).zeroExtend 16] else [] }) := by
  have hactive : (((begin (s.heard dest)).map endHold).st.set (setOf data.toNat)).active = true := by
    show ((s.heard dest).set _).active = true
    rw [set_heard, ReactionSet.active, hk]
    rfl
  have hword : BitVec.ofNat 16 data.toNat = data := by simp
  have hx : executeRequest (s.heard dest) (request dest .write 0x26 data tag) .release
      ((begin (s.heard dest)).map endHold) =
        (writeRecord .reactRelease none data (((begin (s.heard dest)).map endHold).map (dropSet (setOf data.toNat))),
          ⟨.done, 0⟩) := by
    simp only [executeRequest, request_op, opOf_opCode, holdBroken_request, brokenFor_heard, hb,
      Bool.false_eq_true, if_false, executeWrite, map_st, begin_st, request_data, writeRefusal_heard, hw]
    rw [performWrite, doRelease, if_pos hactive, hword]
    rfl
  refine congrArg Host.Outcome.next ?_
  rw [sendRequest_heard tag hi hh (.inr rfl) nofun]
  simp only [reduceCtorEq, if_false, targetOf_write (show regAt 0x26 = some .release from rfl) (by decide)]
  rw [admitFrame_eq, hx, raiseOccurrence_ne (by decide)]
  have hfull : (((begin (s.heard dest)).map endHold).map (dropSet (setOf data.toNat))).st.jn.unread.length = 48 := by
    rw [heard_eq]
    exact hl
  have hadmit : (((begin (s.heard dest)).map endHold).map (dropSet (setOf data.toNat))).st.recordAdmitted .reactRelease none
      = true := by
    rw [heard_eq]
    show (_ || (s.jn.filter.getLsbD 8 && _)) = true
    rw [hf]
    rfl
  rw [writeRecord_full data hfull hadmit]
  have hend : (((begin (s.heard dest)).map endHold).map (dropSet (setOf data.toNat))).st.wrote .reactRelease none data
      = endHold ((dropSet (setOf data.toNat) (s.heard dest)).wrote .reactRelease none data) :=
    wrote_endHold _ _ _ (dropSet (setOf data.toNat) (s.heard dest))
  have hreply := recordReply_request ((dropSet (setOf data.toNat) (s.heard dest)).wrote .reactRelease none data) dest .write
    0x26 data tag ⟨.done, 0⟩
  rw [hend]
  refine congrArg finish ?_
  show Work.mk _ _ _ = _
  rw [hreply, Work.mk.injEq]
  have hmode : (s.heard dest).mc.mode = .running := by rw [mc_heard]; exact hm
  have hstarted : (((begin (s.heard dest)).map endHold).map (dropSet (setOf data.toNat))).startedRunning = true := by
    show ((s.heard dest).mc.mode == .running) = true
    rw [hmode]
    rfl
  refine ⟨rfl, hstarted, ?_⟩
  have hsrc : (((begin (s.heard dest)).map endHold).map (dropSet (setOf data.toNat))).st.src journalId = s.src journalId :=
    src_heard s dest journalId
  have hlost : (((begin (s.heard dest)).map endHold).map (dropSet (setOf data.toNat))).st.jn.lost = s.jn.lost := by
    rw [heard_eq]
    rfl
  rw [hsrc, hstarted, hlost]
  exact if_congr ⟨fun h => h.1, fun h => ⟨h, rfl, hmode⟩⟩ rfl rfl

/-- The lost count after the latch of JOURNAL over a full journal (R153, R156). -/
theorem lost_latches_journal {s : State} (hw : (s.src journalId).reactWhen = .never) (hl : s.jn.unread.length = 48)
    (detail : Word) :
    (s.latches journalId detail).jn.unread.length = 48
    ∧ (s.latches journalId detail).jn.lost =
        if (s.src journalId).w1.getLsbD 5 = true ∧ s.jn.filter.getLsbD 1 = true ∧ s.jn.lost ≠ 255
        then s.jn.lost + 1 else s.jn.lost := by
  have hjn : (maskedLatch journalId detail s).jn = s.jn := maskedLatch_jn _ _ _
  have hfull : (maskedLatch journalId detail s).jn.unread.length = 48 := by rw [hjn]; exact hl
  have hadmit : (maskedLatch journalId detail s).recordAdmitted .latch (some journalId) =
      (s.jn.filter.getLsbD 1 && (s.src journalId).w1.getLsbD 5) := by
    rw [State.recordAdmitted, hjn]
    show (false || (s.jn.filter.getLsbD 1 && (false || ((maskedLatch journalId detail s).src journalId).journals))) = _
    rw [src_maskedLatch, if_pos rfl, Bool.false_or, Bool.false_or]
    rfl
  rw [State.latches, reacted_of_ne (by rw [hw]; decide)]
  refine ⟨length_wrote hfull _ _ _, ?_⟩
  by_cases ha : (maskedLatch journalId detail s).recordAdmitted .latch (some journalId) = true
  · rw [jn_wrote_full detail hfull ha, hjn]
    rw [hadmit, Bool.and_eq_true] at ha
    simp only [ha, true_and, ne_eq, ite_not]
    split
    · next h => exact h.symm
    · rfl
  · rw [State.wrote]
    dsimp only
    rw [if_neg ha]
    rw [hadmit, Bool.and_eq_true] at ha
    rw [if_neg fun h => ha ⟨h.2.1, h.1⟩]
    exact congrArg JournalUnit.lost hjn

/-- Settles O47. -/
theorem fullJournalLosesOneRecord : Obligations.FullJournalLosesOneRecord := by
  unfold Obligations.FullJournalLosesOneRecord
  dsimp only
  refine ⟨fun w k source detail hl ha => ?_, fun w detail hd => ?_,
    fun s dest data tag b hleg hi hh hb hm h1 h7 hk hq hl hf => ?_⟩
  · rw [writeRecord_full detail hl ha, jn_wrote_full detail hl ha]
    simp only [forced_iff]
    rfl
  · obtain ⟨hn, hrun⟩ := finish_journal_occurrence hd
    refine ⟨hn, fun hm => ?_⟩
    obtain ⟨hcounted, hserving, hquiet⟩ := hrun hm
    refine ⟨fun hs => ?_, fun hs hr => ?_, fun hs hr => ?_, fun hs hc hw => ?_⟩
    · rw [hcounted hs, ← satInc_eq]
      rfl
    · rw [hserving hs, if_pos hr, ← satInc_eq]
      rfl
    · rw [hserving hs, if_neg (by simp [hr])]
    · rw [hquiet hs hc, latches_journal hw]
  · have hbound : ¬s.stillBound (setOf data.toNat) = true := by
      rw [stillBound_iff]
      rintro ⟨i, hbusy, hmem⟩
      rw [hk] at hmem
      rcases hq i hmem with h | h <;> rw [h] at hbusy <;> simp at hbusy
    have hw : writeRefusal s .release data = none := by
      rw [writeRefusal_release, hm, if_neg (by decide), if_neg (not_not_intro ⟨h1, h7⟩), if_neg hbound]
    have hx := exec_release_full tag hi hh hb hm hw hk hl hf
    have hunits := releasedFull_eq s dest data tag
    have hprev : (s.releasedFull dest data tag).link.prev = { outcome := .done, tag := tag, data := 0 } := by
      rw [State.releasedFull, replied_eq]
    have hset : ((s.releasedFull dest data tag).set (setOf data.toNat)).binding = none := by
      rw [hunits]
      show ((State.putSet _ _ _).set _).binding = none
      rw [set_putSet_self]
    generalize s.releasedFull dest data tag = y at hx hunits hprev hset
    have hadmit : s.recordAdmitted .reactRelease none = true := by
      show (_ || (s.jn.filter.getLsbD 8 && _)) = true
      rw [hf]
      rfl
    have hlen : y.jn.unread.length = 48 := by
      rw [hunits]
      exact length_wrote hl _ _ _
    have hlost : y.jn.lost = if s.jn.lost = 255 then 255 else s.jn.lost + 1 := by
      rw [hunits, jn_wrote_full data hl hadmit]
    have hfilter : y.jn.filter = s.jn.filter := by
      rw [hunits, jn_wrote_full data hl hadmit]
    have hsrc : y.src journalId = s.src journalId := by
      rw [hunits]
      rfl
    have hmode : y.mc.mode = .running := by
      rw [hunits]
      exact hm
    rw [← hlost] at hx ⊢
    have hone (d : Word) := (finish_journal_occurrence (w := ⟨y, true, [d]⟩) rfl).2 hmode
    have hstates : (s.src journalId).state = .disarmed ∨ (s.src journalId).state = .pending
        ∨ (s.src journalId).state = .absorbed ∨ (s.src journalId).state = .serving ∨ (s.src journalId).state = .quiet := by
      cases (s.src journalId).state <;> simp
    have hnp {a : SrcState} (hs : (s.src journalId).state = a) (ha : a ≠ .pending) {p : Prop} :
        (s.src journalId).state = .pending → p := fun h => absurd (hs.symm.trans h) ha
    have hnq {a : SrcState} (hs : (s.src journalId).state = a) (ha : a ≠ .quiet) {p : Prop} :
        (s.src journalId).state = .quiet → p := fun h => absurd (hs.symm.trans h) ha
    rcases hstates with hs | hs | hs | hs | hs
    · rw [if_neg (by rw [armed_iff]; exact not_not_intro hs), finish_of_nil rfl] at hx
      exact ⟨_, hx, hprev, hlen, hset, hnp hs (by decide), hnq hs (by decide)⟩
    all_goals rw [if_pos ((armed_iff _).mpr (by rw [hs]; decide))] at hx
    · obtain ⟨hcounted, -, -⟩ := hone (y.jn.lost.zeroExtend 16)
      refine ⟨_, hx.trans (congrArg Host.Outcome.next (hcounted (.inl (by rw [hsrc]; exact hs)))), hprev, hlen, hset,
        fun _ => ⟨?_, rfl, ?_⟩, hnq hs (by decide)⟩
      · show y.arb.waiting = _
        rw [hunits]
      · rw [← satInc_eq, ← hsrc, endHappening_srcs, countOccurrence]
        generalize y.jn.lost.zeroExtend 16 = d
        rw [hunits]
        rfl
    · obtain ⟨hcounted, -, -⟩ := hone (y.jn.lost.zeroExtend 16)
      exact ⟨_, hx.trans (congrArg Host.Outcome.next (hcounted (.inr (by rw [hsrc]; exact hs)))), hprev, hlen, hset,
        hnp hs (by decide), hnq hs (by decide)⟩
    · obtain ⟨-, hserving, -⟩ := hone (y.jn.lost.zeroExtend 16)
      refine ⟨_, hx.trans (congrArg Host.Outcome.next (hserving (by rw [hsrc]; exact hs))), ?_⟩
      split
      · exact ⟨hprev, hlen, hset, hnp hs (by decide), hnq hs (by decide)⟩
      · exact ⟨hprev, hlen, hset, hnp hs (by decide), hnq hs (by decide)⟩
    · have hwhen : (y.src journalId).reactWhen = .never := by
        rw [hsrc]
        exact hleg.sound.when_notice (by rw [hs]; decide) (hleg.sound.cls_notice (.inl rfl))
      obtain ⟨-, -, hquiet⟩ := hone (y.jn.lost.zeroExtend 16)
      have hx' := hx.trans (congrArg Host.Outcome.next (hquiet (by rw [hsrc]; exact hs)
        (by rw [hsrc]; exact hleg.sound.cls_notice (.inl rfl))))
      have hlatched := src_latches journalId (y.jn.lost.zeroExtend 16) y journalId
      rw [if_pos rfl] at hlatched
      obtain ⟨hlen', hlost'⟩ := lost_latches_journal hwhen hlen (y.jn.lost.zeroExtend 16)
      rw [hsrc, hfilter] at hlost'
      refine ⟨_, hx', (prev_latches _ _ _).trans hprev, hlen', ?_, hnp hs (by decide), fun _ => ⟨congrArg Source.state hlatched,
        congrArg Source.count hlatched, congrArg Source.detail hlatched,
        List.mem_map.mpr ⟨_, (mem_latches _ _ _ _).mpr (.inl rfl), rfl⟩, hlost'⟩⟩
      show ((State.latches _ _ _).set _).binding = none
      rw [latches_eq, reacted_of_ne (by rw [hwhen]; decide)]
      exact hset

end Sys2Proof.Machine
end

section
/-! PROOFS. The steps of a tick in states with the invariants; a tick that only counts (R93), and the nested overrun
(O52). -/

namespace Sys2Proof.Machine

-- one proof after another: each thread that elaborates costs the check a GiB of its memory limit
set_option Elab.async false

/-! ## Properties that the steps keep in Sound states -/

section
variable {A V : SourceId → Prop} {P : State → Prop}

/-- Occurrences of other sources than COMPOUND keep the invariants of the engine. -/
theorem sound_engine (hA : ∀ i, A i → i ≠ compoundId) (hj : A journalId) : EngineKeepsOn A Always State.Sound :=
  have h := sound_tick.engine.on
  { derived := hj
    journal := h.journal
    bind := h.bind
    lock := fun s i c a b ha => h.lock s i c a b (hA i ha)
    latch := fun s i d ha => h.latch s i d (hA i ha)
    push := fun s i d t r ha => h.push s i d t r (hA i ha)
    full := fun s i d a b ha => h.full s i d a b (hA i ha)
    count := fun s i d ha => h.count s i d (hA i ha)
    again := fun s i d ha => h.again s i d (hA i ha) }

theorem EngineKeepsOn.sound (g : EngineKeepsOn A State.Sound P) (hA : ∀ i, A i → i ≠ compoundId) :
    EngineKeepsOn A Always fun s => s.Sound ∧ P s := (sound_engine hA g.derived).given g

theorem ClaimsKeepOn.sound (g : ClaimsKeepOn A V State.Sound P) (hA : ∀ i, A i → i ≠ compoundId) :
    ClaimsKeepOn A V Always fun s => s.Sound ∧ P s where
  engine := g.engine.sound hA
  stale := g.stale
  entry := fun s i d hv _ hs => ⟨sound_tick.entry s i d hs.1, g.entry s i d hv hs.1 hs.2⟩
  expired := fun s i hv hi _ hs => ⟨sound_tick.expired s i hs.1, g.expired s i hv hi hs.1 hs.2⟩

theorem LateKeepsOn.sound (g : LateKeepsOn A V State.Sound P) (hA : ∀ i, A i → i ≠ compoundId) :
    LateKeepsOn A V Always fun s => s.Sound ∧ P s where
  toClaimsKeepOn := g.toClaimsKeepOn.sound hA
  silence := g.silence
  watchdog := fun s o _ hs => ⟨sound_tick.watchdog s o hs.1, g.watchdog s o hs.1 hs.2⟩

theorem RestKeepsOn.sound {depth : Nat} (g : RestKeepsOn A V depth State.Sound P) (hA : ∀ i, A i → i ≠ compoundId) :
    RestKeepsOn A V depth Always fun s => s.Sound ∧ P s where
  toLateKeepsOn := g.toLateKeepsOn.sound hA
  mismatch := g.mismatch
  overdue := g.overdue
  compare := fun s _ hs => ⟨sound_tick.compare s hs.1, g.compare s hs.1 hs.2⟩
  top := fun s d hl _ hs => ⟨sound_tick.top s d hs.1, g.top s d hl hs.1 hs.2⟩
  overrun := fun s e rest ht hl _ hs => ⟨sound_tick.overrun s e.source hs.1, g.overrun s e rest ht hl hs.1 hs.2⟩
  nested := fun s d a b hl _ hs =>
    ⟨sound_tick.engine.lock _ a b (sound_tick.top s d hs.1), g.nested s d a b hl hs.1 hs.2⟩

end

/-! ## The happening of a tick in Running -/

/-- A tick outside a reset and a frame in progress is its happening (R5, R52, R93). -/
theorem exec_scanTick {s : State} (hh : s.rst.held = false) (hl : s.rst.intervalLeft = 0)
    (hp : s.link.phase ≠ .shifting) (lines : BitVec 24) (readback : Word) :
    exec (.scanTick lines readback) s = .next (tickHappening lines readback s) := by
  refine congrArg Host.Outcome.next ((scanTick_eq hh hl lines readback).trans (countIdle_of_ne ?_))
  rw [(tickFrame_tickHappening s lines readback).link]
  exact hp

/-- The sources with an entry in the list, in its order. -/
def State.waitingSources (s : State) : List SourceId := s.arb.waiting.map (·.source)

/-- A tick's happening in Running: step 3 and the rest (R93). -/
theorem tickHappening_of_running {s : State} (hm : s.mc.mode = .running) (lines : BitVec 24) (readback : Word) :
    tickHappening lines readback s = finish (restSteps s.svc.stack.length s.waitingSources
      (stepExternal (s.changedLines lines) (begin (sampledTick lines readback s)))) := by
  have hr : (begin (sampledTick lines readback s)).startedRunning = true := decide_eq_true hm
  unfold tickHappening tickSteps
  exact congrArg finish (if_pos hr)

theorem sampledTick_eq (lines : BitVec 24) (readback : Word) (s : State) :
    sampledTick lines readback s = { s with
      tc := { s.tc with count := s.tc.count + 1 }
      scan := (sampleInputs lines readback s).scan } := rfl

/-- A tick at which no line's source has an occurrence (R65). -/
theorem stepExternal_silent {w : Work} {changed : BitVec 24} (h : ∀ k : LineId, w.st.lineOccurs changed k = false) :
    stepExternal changed w = w := by
  have hfold (l : List LineId) : l.foldl (scanLine changed) w = w := by
    induction l with
    | nil => rfl
    | cons k l ih =>
      rw [List.foldl_cons, scanLine, h k, Bool.and_false]
      exact ih
  exact hfold _

/-! ## A tick that only counts -/

/-- The state of a counting tick before its deadlines count: the counter, the samples and the readback check. -/
structure Ticked (s z : State) : Prop where
  units : z = { s with
    tc := { s.tc with count := s.tc.count + 1 }
    scan := z.scan
    act := { s.act with counters := z.act.counters, mismatchSet := z.act.mismatchSet, moved := z.act.moved } }
  sound : z.Sound

/-- Steps 5 to 7 of a tick (R93). -/
def lateSteps (depth : Nat) (atStart : List SourceId) (w : Work) : Work :=
  ifLive stepWatchdog (ifLive (stepClaims atStart) (stepService depth w))

theorem ifLive_of_live {w : Work} (h : w.live = true) (f : Work → Work) : ifLive f w = f w := if_pos h

theorem ifLive_of_not_live {w : Work} (h : w.live = false) (f : Work → Work) : ifLive f w = w := if_neg (by simp [h])

/-- A comparison in which no channel joins (R147 to R149). -/
theorem compareReadback_agrees {s : State} (h : s.joining = 0) :
    compareReadback s = { s with
      act := { s.act with
        counters := (compareReadback s).act.counters
        mismatchSet := (compareReadback s).act.mismatchSet
        moved := (compareReadback s).act.moved } } := by
  have hdet : s.act.mismatchDet ||| s.joining = s.act.mismatchDet := by
    rw [h]
    exact BitVec.or_zero
  unfold compareReadback
  rw [hdet]
  dsimp only
  rw [if_pos rfl]

theorem exec_countingTick {s : State} {lines : BitVec 24} {readback : Word} (h : s.CountingTick lines readback) :
    ∃ z, Ticked s z ∧ exec (.scanTick lines readback) s =
      .next (finish (lateSteps s.svc.stack.length s.waitingSources (begin z))) := by
  have hj : (sampledTick lines readback s).joining = 0 := h.agrees
  have hsilent := stepExternal_silent (w := begin (sampledTick lines readback s)) h.silent
  have hsound : (sampledTick lines readback s).Sound :=
    ⟨h.legal.sound.valid.of_units rfl rfl rfl rfl (.inl rfl), h.legal.sound.fields.of_same (.of_units rfl rfl rfl rfl)⟩
  have hunits := compareReadback_agrees hj
  have hz := sound_tick.compare _ hsound
  have hread : stepReadback (begin (sampledTick lines readback s)) =
      (begin (sampledTick lines readback s)).map compareReadback := if_pos hj
  have hwork : (begin (sampledTick lines readback s)).map compareReadback =
      begin (compareReadback (sampledTick lines readback s)) := by
    unfold begin Work.map
    dsimp only
    rw [congrArg State.mc hunits]
  rw [hwork] at hread
  generalize compareReadback (sampledTick lines readback s) = z at hunits hz hread
  refine ⟨z, ⟨hunits.trans (by rw [congrArg State.scan hunits]; rfl), hz⟩, ?_⟩
  rw [exec_scanTick h.held h.left h.phase, tickHappening_of_running h.running, hsilent, restSteps,
    ifLive_of_live (f := stepReadback), hread, ifLive_of_live (f := stepService _)]
  · rfl
  · rw [live_iff, begin_st, hunits]
    exact h.running
  · exact (live_iff _).mpr h.running

section
variable {s z : State} (h : Ticked s z)
include h

theorem Ticked.srcs : z.srcs = s.srcs := by rw [h.units]
theorem Ticked.mc : z.mc = s.mc := by rw [h.units]
theorem Ticked.svc : z.svc = s.svc := by rw [h.units]
theorem Ticked.arb : z.arb = s.arb := by rw [h.units]
theorem Ticked.waiting : z.arb.waiting = s.arb.waiting := by rw [h.units]
theorem Ticked.dl : z.dl = s.dl := by rw [h.units]
theorem Ticked.tc : z.tc.count = s.tc.count + 1 := by rw [h.units]
theorem Ticked.sets : z.act.sets = s.act.sets := by rw [h.units]
theorem Ticked.safe : z.act.safe = s.act.safe := by rw [h.units]
theorem Ticked.src (i : SourceId) : z.src i = s.src i := by rw [State.src, h.srcs]; rfl

end

/-! ## The nested overrun -/

/-- The top's service deadline spent (R133, R135). -/
theorem setTopDeadline_cons {s : State} {e : StackEntry} {rest : List StackEntry} (hs : s.svc.stack = e :: rest)
    (d : Deadline) : setTopDeadline d s = { s with svc := { s.svc with stack := { e with deadline := d } :: rest } } := by
  rw [setTopDeadline, hs]
  rfl

theorem expireNested_st {w : Work} {e : StackEntry} {rest : List StackEntry} (hs : w.st.svc.stack = e :: rest)
    (i : SourceId) :
    (expireNested i w).st = State.lockedBy
      { w.st with svc := { w.st.svc with stack := { e with deadline := .spent } :: rest } } 5 (some i) w.st.belowTop := by
  rw [expireNested, enterLockdown_locked, map_st, setTopDeadline_cons hs]

theorem expireNested_live (i : SourceId) (w : Work) : (expireNested i w).live = false := enterLockdown_live _ _ _ _

theorem expiringTop_of_running {s : State} {e : StackEntry} {rest : List StackEntry} {n : Nat}
    (hm : s.mc.mode = .running) (hs : s.svc.stack = e :: rest) (hn : e.deadline = .runningDown n) :
    s.expiringTop = some e.source := by
  rw [State.expiringTop, hs]
  exact if_pos ⟨hm, by rw [hn]; rfl⟩

/-- Step 5 where the count of the top ends its deadline (R132). -/
theorem stepService_due {w : Work} {e : StackEntry} {rest : List StackEntry} (hs : w.st.svc.stack = e :: rest)
    (hn : e.deadline = .runningDown 1) : stepService (rest.length + 1) w = expireTop e.source w := by
  rw [stepService, hs]
  simp [hn]

/-- Settles O52. -/
theorem nestedOverrunLocksDown : Obligations.NestedOverrunLocksDown := by
  unfold Obligations.NestedOverrunLocksDown
  dsimp only
  intro s e rest n hm hs hn he
  have finished {w : Work} (h : w.st.svc.stack = e :: rest) : finish (expireNested e.source w) =
      endHappening (State.lockedBy { w.st with svc := { w.st.svc with stack := { e with deadline := .spent } :: rest } }
        5 (some e.source) w.st.belowTop) := by
    rw [finish_of_not_live (expireNested_live _ _), expireNested_st h]
  refine ⟨?_, fun lines readback h h1 => ?_⟩
  · show Host.Outcome.next (match s.expiringTop with | some i => _ | none => _) = _
    rw [expiringTop_of_running hm hs hn]
    dsimp only
    rw [if_pos he, finished (w := begin s) hs, begin_st, State.belowTop, hs]
    cases rest <;> rfl
  · obtain ⟨z, hz, hx⟩ := exec_countingTick h
    have hs' : (begin z).st.svc.stack = e :: rest := hz.svc ▸ hs
    have hdue := stepService_due hs' (hn.trans (by rw [h1]))
    have hdead := expireNested_live e.source (begin z)
    have hlate : lateSteps s.svc.stack.length s.waitingSources (begin z) = expireNested e.source (begin z) := by
      rw [lateSteps, show s.svc.stack.length = rest.length + 1 by rw [hs]; rfl, hdue, expireTop, if_pos he,
        ifLive_of_not_live hdead, ifLive_of_not_live hdead]
    rw [hlate, finished hs', begin_st, lockedBy_eq] at hx
    refine ⟨_, hx, hz.tc, rfl, ?_, congrArg (·.extractLsb' 0 16) hz.tc, rfl, ?_, hz.srcs, hz.waiting,
      hz.dl, hz.sets, ?_, ?_⟩
    · show 5#4 ++ 0#2 ++ sourceBits e.source ++ z.belowTop = _
      rw [State.belowTop, hz.svc, hs]
      cases rest <;> rfl
    · show ({ z.svc with stack := _ } : ServiceUnit) = _
      rw [hz.svc]
    · rw [endHappening_alert, alertCondition_iff]
      exact .inl rfl
    · rw [endHappening_act_effective, effectiveWord_of_not_running (by show Mode.lockdown ≠ .running; decide)]
      exact hz.safe

end Sys2Proof.Machine
end

section
/-! PROOFS. What the steps of a tick leave alone, and what the visits of step 6 can raise; the watchdog's expiry
(O54). -/

namespace Sys2Proof.Machine

-- one proof after another: each thread that elaborates costs the check a GiB of its memory limit
set_option Elab.async false

/-! ## What every step of a tick keeps -/

/-- The tick counter stands after step 1 (R95). -/
theorem tc_tick (c : TickUnit) : TickKeeps fun t => t.tc = c where
  engine := .of_frame fun _ _ g h => g.tc.trans h
  compare := fun s h => by
    rw [compareReadback_eq]
    exact h
  top := fun _ _ h => h
  overrun := fun _ _ h => h
  entry := fun _ _ _ h => h
  expired := fun _ _ h => h
  watchdog := fun _ _ h => h

/-- Positions are only taken (R83). -/
theorem position_tick (n : Nat) : TickKeeps fun t => n ≤ t.arb.nextPosition where
  engine :=
    { journal := fun _ _ _ _ h => h
      bind := fun _ _ _ h => h
      lock := fun _ _ _ h => h
      mask := fun s i h => by
        rw [selfMask_eq]
        exact h
      latch := fun s i d _ _ _ h => by
        rw [latchState_eq]
        exact Nat.le_succ_of_le h
      push := fun _ _ _ _ _ _ _ _ _ _ _ h => Nat.le_succ_of_le h
      full := fun _ _ _ _ _ _ _ _ h => Nat.le_succ_of_le h
      count := fun _ _ _ _ _ _ h => h
      again := fun _ _ _ _ _ _ h => h }
  compare := fun s h => by
    rw [compareReadback_eq]
    exact h
  top := fun _ _ h => h
  overrun := fun _ _ h => h
  entry := fun _ _ _ h => h
  expired := fun _ _ h => h
  watchdog := fun _ _ h => h

/-- Source `i` is in the binding of set `k`. -/
def State.bound (s : State) (k : SetId) (i : SourceId) : Prop := ∃ b, (s.set k).binding = some b ∧ i ∈ b

/-- A binding only grows (R141). -/
theorem bound_bindSet {s : State} {k : SetId} {i : SourceId} (h : s.bound k i) (m : SetId) (j : SourceId) :
    (bindSet m j s).bound k i := by
  obtain ⟨b, hb, hi⟩ := h
  show ∃ b, ((s.putSet m ((s.set m).bind j)).set k).binding = some b ∧ i ∈ b
  by_cases hk : m = k
  · subst hk
    rw [set_putSet_self, bind_eq, hb]
    dsimp only
    split
    · exact ⟨b, rfl, hi⟩
    · exact ⟨_, rfl, List.mem_append_left _ hi⟩
  · rw [set_putSet_ne _ hk]
    exact ⟨b, hb, hi⟩

theorem State.bound.of_sets {s t : State} {k : SetId} {i : SourceId} (h : s.bound k i) (hs : t.act.sets = s.act.sets) :
    t.bound k i := by
  rw [State.bound, State.set, hs]
  exact h

theorem bound_tick (k : SetId) (i : SourceId) : TickKeeps fun t => t.bound k i where
  engine :=
    { journal := fun _ _ _ _ h => h.of_sets rfl
      bind := fun _ m j h => bound_bindSet h m j
      lock := fun _ _ _ h => h.of_sets rfl
      mask := fun s i h => h.of_sets (by rw [selfMask_eq])
      latch := fun s i d _ _ _ h => h.of_sets (by rw [latchState_eq]; rfl)
      push := fun _ _ _ _ _ _ _ _ _ _ _ h => h.of_sets rfl
      full := fun _ _ _ _ _ _ _ _ h => h.of_sets rfl
      count := fun _ _ _ _ _ _ h => h.of_sets rfl
      again := fun _ _ _ _ _ _ h => h.of_sets rfl }
  compare := fun s h => h.of_sets (by
    unfold compareReadback
    dsimp only
    split
    · rfl
    · rw [markHold_eq])
  top := fun _ _ h => h.of_sets rfl
  overrun := fun _ _ h => h.of_sets rfl
  entry := fun _ _ _ h => h.of_sets rfl
  expired := fun _ _ h => h.of_sets rfl
  watchdog := fun _ _ h => h.of_sets rfl

/-- An entry that step 6 does not visit stays in the list as it is. -/
theorem entry_rest {V : SourceId → Prop} {p : PendEntry} (hp : ¬V p.source) (depth : Nat) :
    RestKeepsOn (· ≠ compoundId) V depth Always fun t => p ∈ t.arb.waiting := by
  have engine : EngineKeeps fun t => p ∈ t.arb.waiting :=
    { journal := fun _ _ _ _ h => h
      bind := fun _ _ _ h => h
      lock := fun _ _ _ h => h
      mask := fun s i h => by
        rw [selfMask_eq]
        exact h
      latch := fun s i d _ _ _ h => by
        rw [latchState_eq]
        exact (mem_joinState _ _ _ _ _ _).mpr (.inr h)
      push := fun _ _ _ _ _ _ _ _ _ _ _ h => h
      full := fun _ _ _ _ _ _ _ _ h => h
      count := fun _ _ _ _ _ _ h => h
      again := fun _ _ _ _ _ _ h => h }
  exact
    { engine := engine.on
      stale := by decide
      silence := by decide
      mismatch := by decide
      overdue := by decide
      entry := fun s i d hv _ h => by
        refine List.mem_map.mpr ⟨p, h, if_neg fun e => hp ?_⟩
        rw [e]
        exact hv
      expired := fun _ _ _ _ _ h => h
      watchdog := fun _ _ _ h => h
      compare := fun s _ h => by
        rw [compareReadback_eq]
        exact h
      top := fun _ _ _ _ h => h
      overrun := fun _ _ _ _ _ _ h => h
      nested := fun _ _ _ _ _ _ h => h }

/-! ## What the occurrences of some sources leave of the others -/

/-- An occurrence changes the descriptor block of its own source, and that of COMPOUND. -/
theorem engine_src {A : SourceId → Prop} (hj : A journalId) {i : SourceId} (hi : ¬A i) (hc : i ≠ compoundId)
    (S : State → Prop) (R : Source → Prop) : EngineKeepsOn A S fun t => R (t.src i) := by
  have ne {j : SourceId} (h : A j) : j ≠ i := fun e => hi (e ▸ h)
  exact
    { derived := hj
      journal := fun _ _ _ _ _ h => h
      bind := fun _ _ _ _ h => h
      lock := fun _ _ _ _ _ _ _ _ _ _ h => h
      latch := fun s j d ha _ _ _ _ h => by
        rw [src_maskedLatch, if_neg (ne ha)]
        exact h
      push := fun s j d top _ ha _ _ _ _ _ _ h => by
        rw [src_pushState, if_neg hc.symm, src_absorbState, if_neg (ne ha)]
        exact h
      full := fun s j d a b ha _ _ _ _ _ h => by
        show R ((absorbState j d s).src i)
        rw [src_absorbState, if_neg (ne ha)]
        exact h
      count := fun s j d ha _ _ _ h => by
        rw [countOccurrence, src_setSrc_ne s (ne ha)]
        exact h
      again := fun s j d ha _ _ _ h => by
        rw [countRepeat, src_setSrc_ne s (ne ha)]
        exact h }

/-- A source whose block differs at most in a claim-deadline mark that it was given while Pending (R129). -/
structure ExpiredOnly (x y : Source) : Prop where
  block   : y = { x with expired := y.expired }
  expired : x.state ≠ .pending → y.expired = x.expired

theorem ExpiredOnly.refl (x : Source) : ExpiredOnly x x := ⟨rfl, fun _ => rfl⟩

theorem ExpiredOnly.state {x y : Source} (h : ExpiredOnly x y) : y.state = x.state := by rw [h.block]

theorem ExpiredOnly.count {x y : Source} (h : ExpiredOnly x y) : y.count = x.count := by rw [h.block]

theorem ExpiredOnly.same {x y : Source} (h : ExpiredOnly x y) (hs : x.state ≠ .pending) : y = x := by
  rw [h.block, h.expired hs]

/-- A source whose block differs at most in the marks of the deadlines, the claim deadline's given while Pending and the
service deadline's while Serving (R129, R133). -/
structure MarksOnly (x y : Source) : Prop where
  block   : y = { x with expired := y.expired, overrun := y.overrun }
  expired : x.state ≠ .pending → y.expired = x.expired
  overrun : x.state ≠ .serving → y.overrun = x.overrun

theorem MarksOnly.refl (x : Source) : MarksOnly x x := ⟨rfl, fun _ => rfl, fun _ => rfl⟩

theorem MarksOnly.state {x y : Source} (h : MarksOnly x y) : y.state = x.state := by rw [h.block]

/-- A source with an entry in the list is Pending (R86). -/
theorem State.Sound.pending_of_mem {s : State} (h : s.Sound) {i : SourceId} (hi : i ∈ s.arb.waiting.map (·.source)) :
    (s.src i).state = .pending := (h.valid.events.pending i).mpr hi

/-- The source of the top is Serving (R96). -/
theorem State.Sound.serving_of_top {s : State} (h : s.Sound) {top : StackEntry} {rest : List StackEntry}
    (hs : s.svc.stack = top :: rest) : (s.src top.source).state = .serving := state_of_top h.valid.events.core hs

theorem expiredOnly_claims {A : SourceId → Prop} (hj : A journalId) (hs : A staleId) (V : SourceId → Prop)
    {i : SourceId} (hi : ¬A i) (hc : i ≠ compoundId) (x : Source) :
    ClaimsKeepOn A V State.Sound fun t => ExpiredOnly x (t.src i) where
  engine := engine_src hj hi hc _ (ExpiredOnly x)
  stale := hs
  entry := fun _ _ _ _ _ h => h
  expired := fun s k _ hk hsound h => by
    by_cases hki : k = i
    · subst hki
      have hp : x.state = .pending := by
        have := hsound.pending_of_mem hk
        rw [h.block] at this
        exact this
      rw [src_setSrc_self]
      exact ⟨by rw [h.block], fun hn => absurd hp hn⟩
    · rw [src_setSrc_ne s hki]
      exact h

theorem expiredOnly_late {A : SourceId → Prop} (hj : A journalId) (hs : A staleId) (hw : A silenceId)
    (V : SourceId → Prop) {i : SourceId} (hi : ¬A i) (hc : i ≠ compoundId) (x : Source) :
    LateKeepsOn A V State.Sound fun t => ExpiredOnly x (t.src i) where
  toClaimsKeepOn := expiredOnly_claims hj hs V hi hc x
  silence := hw
  watchdog := fun _ _ _ h => h

theorem marksOnly_rest {A : SourceId → Prop} (hj : A journalId) (hs : A staleId) (hw : A silenceId)
    (hm : A mismatchId) (ho : A overrunId) (V : SourceId → Prop) (depth : Nat) {i : SourceId} (hi : ¬A i)
    (hc : i ≠ compoundId) (x : Source) : RestKeepsOn A V depth State.Sound fun t => MarksOnly x (t.src i) where
  engine := engine_src hj hi hc _ (MarksOnly x)
  stale := hs
  silence := hw
  mismatch := hm
  overdue := ho
  entry := fun _ _ _ _ _ h => h
  expired := fun s k _ hk hsound h => by
    by_cases hki : k = i
    · subst hki
      have hp : x.state = .pending := h.state.symm.trans (hsound.pending_of_mem hk)
      rw [src_setSrc_self]
      exact ⟨by rw [h.block], fun hn => absurd hp hn, h.overrun⟩
    · rw [src_setSrc_ne s hki]
      exact h
  watchdog := fun _ _ _ h => h
  compare := fun s _ h => by
    rw [compareReadback_eq]
    exact h
  top := fun _ _ _ _ h => h
  overrun := fun s top rest ht _ hsound h => by
    by_cases hki : top.source = i
    · subst hki
      have hp : x.state = .serving := h.state.symm.trans (hsound.serving_of_top ht)
      rw [src_setSrc_self]
      exact ⟨by rw [h.block], h.expired, fun hn => absurd hp hn⟩
    · rw [src_setSrc_ne s hki]
      exact h
  nested := fun _ _ _ _ _ _ h => h

/-! ## What the occurrences of step 6 leave of the units -/

/-- The sources that step 6 can raise: STALE, and JOURNAL after a loss (R129, R156). -/
def ClaimSource (i : SourceId) : Prop := i = staleId ∨ i = journalId

/-- The sources that steps 6 and 7 can raise: these and SILENCE (R137). -/
def LateSource (i : SourceId) : Prop := i = silenceId ∨ ClaimSource i

theorem ClaimSource.decision {s : State} (h : s.Sound) {i : SourceId} (hi : ClaimSource i) : s.decision i = .normal :=
  decision_notice (h.cls_notice (hi.elim (fun e => .inr (.inl e)) .inl))

theorem LateSource.decision {s : State} (h : s.Sound) {i : SourceId} (hi : LateSource i) :
    s.decision i ≠ .compound := by
  rcases hi with rfl | hi
  · rw [decision_critical h.cls_silence]
    split
    · nofun
    · split <;> nofun
  · rw [hi.decision h]
    nofun

theorem LateSource.ne_compound {i : SourceId} (hi : LateSource i) : i ≠ compoundId := by
  rcases hi with rfl | rfl | rfl <;> decide

/-- The units that occurrences of Notices leave alone. -/
structure SameService (s t : State) : Prop where
  mc  : t.mc = s.mc
  svc : t.svc = s.svc
  dl  : t.dl = s.dl

theorem sameService_claims (V : SourceId → Prop) (b : State) :
    ClaimsKeepOn ClaimSource V State.Sound (SameService b) where
  stale := .inl rfl
  engine :=
    { derived := .inr rfl
      journal := fun _ _ _ _ _ h => ⟨h.mc, h.svc, h.dl⟩
      bind := fun _ _ _ _ h => ⟨h.mc, h.svc, h.dl⟩
      lock := fun s i c _ _ ha _ _ hd hs _ => by
        rw [ha.decision hs] at hd
        cases hd
      latch := fun s i d _ _ _ _ _ h => by
        rw [maskedLatch_eq, latchState_eq]
        exact ⟨h.mc, h.svc, h.dl⟩
      push := fun s i d _ _ ha _ _ hd _ _ hs _ => by
        rw [ha.decision hs] at hd
        cases hd
      full := fun s i d _ _ ha _ _ hd _ hs _ => by
        rw [ha.decision hs] at hd
        cases hd
      count := fun _ _ _ _ _ _ _ h => ⟨h.mc, h.svc, h.dl⟩
      again := fun _ _ _ _ _ _ _ h => ⟨h.mc, h.svc, h.dl⟩ }
  entry := fun _ _ _ _ _ h => ⟨h.mc, h.svc, h.dl⟩
  expired := fun _ _ _ _ _ h => ⟨h.mc, h.svc, h.dl⟩

theorem svc_late (V : SourceId → Prop) (v : ServiceUnit) : LateKeepsOn LateSource V State.Sound fun t => t.svc = v where
  stale := .inr (.inl rfl)
  silence := .inl rfl
  engine :=
    { derived := .inr (.inr rfl)
      journal := fun _ _ _ _ _ h => h
      bind := fun _ _ _ _ h => h
      lock := fun _ _ _ _ _ _ _ _ _ _ h => h
      latch := fun s i d _ _ _ _ _ h => by
        rw [maskedLatch_eq, latchState_eq]
        exact h
      push := fun s i d _ _ ha _ _ hd _ _ hs _ => absurd hd (ha.decision hs)
      full := fun s i d _ _ ha _ _ hd _ hs _ => absurd hd (ha.decision hs)
      count := fun _ _ _ _ _ _ _ h => h
      again := fun _ _ _ _ _ _ _ h => h }
  entry := fun _ _ _ _ _ h => h
  expired := fun _ _ _ _ _ h => h
  watchdog := fun _ _ _ h => h

end Sys2Proof.Machine
end

section
/-! PROOFS. What one occurrence makes of a state, taken to its end; the service deadline's count; the watchdog's expiry
(O54). -/

namespace Sys2Proof.Machine

-- one proof after another: each thread that elaborates costs the check a GiB of its memory limit
set_option Elab.async false

/-! ## One occurrence -/

theorem src_endHappening (s : State) (i : SourceId) : (endHappening s).src i = s.src i := rfl

section
variable {w : Work} (hl : w.live = true) {i : SourceId} (d : Word)
include hl

theorem occur_latches (hq : (w.st.src i).state = .quiet) (hd : w.st.decision i = .normal) :
    (occur i d w).st = w.st.latches i d := by
  rw [occur_quiet hl hq, firstLatch_normal hd, normalLatch_st]

theorem occur_locks (hq : (w.st.src i).state = .quiet) {cause : BitVec 4} (hd : w.st.decision i = .lockdown cause) :
    (occur i d w).st = w.st.lockedBy cause (some i) (w.st.secondSource cause) := by
  rw [occur_quiet hl hq, firstLatch_lockdown hd, enterLockdown_locked]

theorem occur_counts (hs : (w.st.src i).state = .pending ∨ (w.st.src i).state = .absorbed) :
    (occur i d w).st = w.st.setSrc i { w.st.src i with count := satInc (w.st.src i).count, detail := d } := by
  rw [occur_counted hl hs]
  rfl

theorem occur_repeats (hs : (w.st.src i).state = .serving) (hr : (w.st.src i).repeats = true) :
    occur i d w = w.map (countRepeat i d) := by
  rw [occur_serving hl hs, if_pos hr]

theorem occur_keepsBack (hs : (w.st.src i).state = .serving) (hr : (w.st.src i).repeats = true) :
    (occur i d w).st = w.st.setSrc i { w.st.src i with repeatCount := satInc (w.st.src i).repeatCount, detail := d } := by
  rw [occur_repeats hl d hs hr]
  rfl

theorem occur_discards (hs : (w.st.src i).state = .serving) (hr : (w.st.src i).repeats = false) :
    occur i d w = w := by
  rw [occur_serving hl hs, if_neg (by simp [hr])]

end

/-- No occurrence waits once those that waited are processed (R156). -/
theorem drain_derived (w : Work) : (drain w).derived = [] := by
  have hfold (l : List Word) (v : Work) : (l.foldl (fun v d => occurJournal d v) v).derived = v.derived := by
    induction l generalizing v with
    | nil => rfl
    | cons d l ih => exact ih _
  exact hfold _ _

theorem finish_drain (w : Work) : finish (drain w) = finish w := by
  rw [finish, drain_of_nil (drain_derived w)]
  rfl

/-- What the JOURNAL occurrences make of a state that another occurrence has left (R80). -/
theorem journalFrame_occurAll {w : Work} (hw : w.st.Sound) {i : SourceId} (hi : i ≠ compoundId) (d : Word) :
    JournalFrame (occur i d w).st (occurAll i d w).st :=
  journalFrame_drain (sound_tick.engine.occur hw hi d).journalNotice

/-- An occurrence that does not escalate leaves the mode unit (R114). -/
theorem mc_occur {w : Work} {i : SourceId} (hd : (w.st.src i).state = .quiet → w.st.decision i = .normal) (d : Word) :
    (occur i d w).st.mc = w.st.mc := by
  by_cases hl : w.live = true
  · cases hs : (w.st.src i).state with
    | disarmed => rw [occur_disarmed hs]
    | quiet => rw [occur_latches hl d hs (hd hs), latches_eq]
    | pending => rw [occur_counts hl d (.inl hs)]; rfl
    | absorbed => rw [occur_counts hl d (.inr hs)]; rfl
    | serving =>
      rw [occur_serving hl hs]
      split <;> rfl
  · rw [occur_of_not_live (Bool.eq_false_iff.mpr hl)]

/-! ## An occurrence and the JOURNAL occurrences that follow it -/

theorem severity_le {s : State} (h : s.Sound) : s.severity ≤ 3 := by
  cases hst : s.svc.stack with
  | nil => simp [State.severity, hst]
  | cons top rest =>
    rw [h.severity_top hst, State.rank]
    split
    · exact Nat.le_refl _
    · cases (s.src top.source).cls <;> decide

/-- A decision to lock down has a severity of at least 2, and over a smaller one than 3 the cause 1 (R114). -/
theorem escalate_lockdown {severity : Nat} {c : Class} {enable : Bool} {cause : BitVec 4}
    (h : escalate severity c enable = .lockdown cause) : 2 ≤ severity ∧ (cause = 1 ∨ 3 ≤ severity) := by
  match c, severity with
  | .fault, 0 | .critical, 0 | .critical, 1 | .notice, _ | .compound, _ => cases h
  | .fault, 1 | .fault, 2 => cases enable <;> cases h
  | .fault, n + 3 | .critical, n + 3 => exact ⟨by omega, .inr (by omega)⟩
  | .critical, 2 =>
    cases h
    exact ⟨by omega, .inl rfl⟩

/-- The second source of a lockdown by a first latch is the source of the top (R123). -/
theorem secondSource_field {s : State} (h : s.Sound) {i : SourceId} {cause : BitVec 4}
    (hd : s.decision i = .lockdown cause) : s.secondSource cause = s.stackField 0 := by
  obtain ⟨h2, hc⟩ := escalate_lockdown hd
  cases hst : s.svc.stack with
  | nil => simp [State.severity, hst] at h2
  | cons top rest =>
    rw [h.severity_top hst] at hc
    have h3 := h.severity_top hst ▸ severity_le h
    rw [h.secondSource_top hst (hc.imp id fun g => le_antisymm h3 g), State.stackField, hst]
    rfl

/-- The units after an entry to Lockdown (R123, R124). -/
structure LockedFrom (s : State) (cause : BitVec 4) (i : SourceId) (second : BitVec 5) (u : State) : Prop where
  mode     : u.mc.mode = .lockdown
  lockrec  : u.mc.lockrec = cause ++ 0#2 ++ sourceBits i ++ second
  locktick : u.mc.locktick = s.tc.count.extractLsb' 0 16
  srcs     : u.srcs = s.srcs
  arb      : u.arb = s.arb
  svc      : u.svc = s.svc
  dl       : u.dl = s.dl
  act      : u.act = s.act

theorem lockedFrom_lockedBy (s : State) (cause : BitVec 4) (i : SourceId) (second : BitVec 5) :
    LockedFrom s cause i second (s.lockedBy cause (some i) second) := by
  rw [lockedBy_eq]
  exact ⟨rfl, rfl, rfl, rfl, rfl, rfl, rfl, rfl⟩

/-- A state in Lockdown at its end: ALERT, and the outputs at their safe levels (R91, R143). -/
theorem endHappening_locked {u : State} (h : u.mc.mode = .lockdown) :
    (endHappening u).arb.alert = true ∧ (endHappening u).act.effective = u.act.safe := by
  refine ⟨?_, ?_⟩
  · rw [endHappening_alert, alertCondition_iff]
    exact .inl h
  · rw [endHappening_act_effective, effectiveWord_of_not_running (by rw [h]; decide)]

theorem not_live_of_lockdown {w : Work} (h : w.st.mc.mode = .lockdown) : w.live = false := by
  rw [Bool.eq_false_iff, ne_eq, live_iff, h]
  decide

section
variable {w : Work} (hw : w.st.Sound) (hl : w.live = true) {i : SourceId} (hq : (w.st.src i).state = .quiet)
include hw hl hq

theorem occurAll_latched (hi : i ≠ compoundId) (hj : i ≠ journalId) (hd : w.st.decision i = .normal) (d : Word) :
    LatchedFrom w.st i d (occurAll i d w).st := by
  have h := journalFrame_occurAll hw hi d
  rw [occur_latches hl d hq hd] at h
  exact latchedFrom_of_journal hj h

theorem occurAll_escalated (hi : i ≠ compoundId) (hj : i ≠ journalId) (hd : w.st.decision i = .compound)
    {top : StackEntry} {rest : List StackEntry} (hs : w.st.svc.stack = top :: rest)
    (hlen : w.st.svc.stack.length < Config.stackLimit) (d : Word) :
    EscalatedFrom w.st top.source i d (occurAll i d w).st := by
  have h := journalFrame_occurAll hw hi d
  rw [occur_quiet hl hq, firstLatch_compound hd, compoundLatch_st hs, if_pos (by rw [absorbs_eq]; exact hlen)] at h
  exact escalatedFrom_of_journal hi hj h

omit hw in
theorem occurAll_overfull (hd : w.st.decision i = .compound) {top : StackEntry} {rest : List StackEntry}
    (hs : w.st.svc.stack = top :: rest) (hlen : ¬w.st.svc.stack.length < Config.stackLimit) (d : Word) :
    OverfullFrom w.st i d (sourceBits top.source) (occurAll i d w).st := by
  have hst : (occur i d w).st = (w.st.absorbs i d top.source).lockedBy 4 (some i) (sourceBits top.source) := by
    rw [occur_quiet hl hq, firstLatch_compound hd, compoundLatch_st hs, if_neg (by rw [absorbs_eq]; exact hlen)]
  have h := overfullFrom_locked w.st i d top.source (sourceBits top.source)
  rw [← hst] at h
  rw [occurAll, drain_st_of_not_live (not_live_of_lockdown h.mode)]
  exact h

theorem occurAll_locked {cause : BitVec 4} (hd : w.st.decision i = .lockdown cause) (d : Word) :
    LockedFrom w.st cause i (w.st.stackField 0) (occurAll i d w).st := by
  have h := lockedFrom_lockedBy w.st cause i (w.st.secondSource cause)
  rw [← occur_locks hl d hq hd, secondSource_field hw hd] at h
  rw [occurAll, drain_st_of_not_live (not_live_of_lockdown h.mode)]
  exact h

end

/-- An occurrence that does not escalate leaves the stack and its records (R114). -/
theorem svc_occur {w : Work} {i : SourceId} (hd : (w.st.src i).state = .quiet → w.st.decision i = .normal) (d : Word) :
    (occur i d w).st.svc = w.st.svc := by
  by_cases hl : w.live = true
  · cases hs : (w.st.src i).state with
    | disarmed => rw [occur_disarmed hs]
    | quiet => rw [occur_latches hl d hs (hd hs), latches_eq]
    | pending => rw [occur_counts hl d (.inl hs)]; rfl
    | absorbed => rw [occur_counts hl d (.inr hs)]; rfl
    | serving =>
      rw [occur_serving hl hs]
      split <;> rfl
  · rw [occur_of_not_live (Bool.eq_false_iff.mpr hl)]

/-! ## The count of the top's service deadline -/

/-- The service deadline of the top counted (R132). -/
def countTop (s : State) : State :=
  { s with svc := { s.svc with stack := mapTop (fun e => { e with deadline := e.deadline.counted }) s.svc.stack } }

/-- A count that does not end the deadline of the top (R132). -/
theorem stepService_counts {w : Work}
    (h : ∀ top rest, w.st.svc.stack = top :: rest → top.deadline.due = false) :
    stepService w.st.svc.stack.length w = w.map countTop := by
  unfold stepService
  split
  · next hs =>
    show w = { w with st := { w.st with svc := { w.st.svc with stack := mapTop _ w.st.svc.stack } } }
    rw [hs, mapTop, ← hs]
  · next top rest hs =>
    have hdue := h top rest hs
    rw [if_neg (by simp)]
    have same (hc : top.deadline.counted = top.deadline) : w = w.map countTop := by
      show w = { w with st := { w.st with svc := { w.st.svc with stack := mapTop _ w.st.svc.stack } } }
      rw [hs, mapTop, hc, ← hs]
    split
    · next n hn =>
      have hn1 : ¬n ≤ 1 := by simpa [hn, Deadline.due] using hdue
      rw [if_neg hn1]
      unfold Work.map countTop setTopDeadline
      rw [hs]
      simp [mapTop, hn, Deadline.counted, hn1]
    · next hn => exact same (by rw [hn]; rfl)
    · next hn => exact same (by rw [hn]; rfl)

theorem sound_countTop {s : State} (h : s.Sound) : (countTop s).Sound := by
  unfold countTop
  cases hs : s.svc.stack with
  | nil =>
    have : s = { s with svc := { s.svc with stack := [] } } := by rw [← hs]
    rwa [this] at h
  | cons e rest =>
    have := sound_tick.top s e.deadline.counted h
    rwa [setTopDeadline_cons hs] at this

theorem Ticked.frame {s z : State} (h : Ticked s z) : TickFrame s z := by
  rw [h.units]
  exact .of_units rfl rfl rfl rfl ⟨rfl, rfl, rfl⟩ rfl rfl rfl

theorem tickFrame_countTop (s : State) : TickFrame s (countTop s) :=
  .of_units rfl rfl rfl rfl ⟨rfl, rfl, rfl⟩ rfl rfl rfl

theorem severity_congr {s t : State} (hs : t.svc.stack.map (·.source) = s.svc.stack.map (·.source))
    (hw : ∀ i, (t.src i).w0 = (s.src i).w0) : t.severity = s.severity := by
  have rank (i : SourceId) : t.rank i = s.rank i := by
    rw [State.rank, State.rank, Source.cls, Source.cls, Source.classBits, Source.classBits, hw]
  have fold (u : State) : u.severity = (u.svc.stack.map (·.source)).foldl (fun r i => max r (u.rank i)) 0 := by
    rw [List.foldl_map]
    rfl
  rw [fold, fold, hs]
  simp only [rank]

theorem severity_countTop (s : State) : (countTop s).severity = s.severity :=
  severity_congr (map_source_mapTop (f := fun e => { e with deadline := e.deadline.counted }) (fun _ => rfl) _) fun _ => rfl

/-! ## A counting tick in which the top's deadline does not end -/

/-- Such a tick counts the top, visits the list and counts the watchdog (R93). -/
theorem exec_countedTop {s : State} {lines : BitVec 24} {readback : Word} (h : s.CountingTick lines readback)
    (ht : ∀ top rest, s.svc.stack = top :: rest → top.deadline.due = false) :
    ∃ z, Ticked s z ∧ exec (.scanTick lines readback) s =
      .next (finish (ifLive stepWatchdog (stepClaims s.waitingSources ((begin z).map countTop)))) := by
  obtain ⟨z, hz, hx⟩ := exec_countingTick h
  have hcount := stepService_counts (w := begin z) (by rw [begin_st, hz.svc]; exact ht)
  refine ⟨z, hz, hx.trans ?_⟩
  rw [begin_st, hz.svc] at hcount
  rw [lateSteps, hcount, ifLive_of_live (f := stepClaims _)]
  rw [live_iff, map_st]
  exact (congrArg ModeUnit.mode hz.mc).trans h.running

/-- What step 6 leaves alone (R93, R128, R129). -/
structure ClaimsLeave (s t : State) : Prop where
  sound    : t.Sound
  service  : SameService s t
  tc       : t.tc = s.tc
  frame    : TickFrame s t
  position : s.arb.nextPosition ≤ t.arb.nextPosition
  other    : ∀ i, ¬ClaimSource i → i ≠ compoundId → ExpiredOnly (s.src i) (t.src i)

theorem ClaimSource.ne_compound {i : SourceId} (h : ClaimSource i) : i ≠ compoundId := LateSource.ne_compound (.inr h)

theorem claimsLeave {w : Work} (hw : w.st.Sound) (atStart : List SourceId) :
    ClaimsLeave w.st (stepClaims atStart w).st := by
  have hv : ∀ i ∈ atStart, (fun _ => True) i := fun _ _ => trivial
  have hframe := tickFrame_tick w.st
  have hp := position_tick w.st.arb.nextPosition
  have htc := tc_tick w.st.tc
  refine ⟨?_, ?_, ?_, ?_, ?_, fun i hi hc => ?_⟩
  · exact (sound_tick.rest 0).stepClaims hw hv
  · exact (((sameService_claims _ w.st).sound fun _ => ClaimSource.ne_compound).stepClaims ⟨hw, rfl, rfl, rfl⟩ hv).2
  · exact (htc.rest 0).stepClaims rfl hv
  · exact (hframe.rest 0).stepClaims (.refl _) hv
  · exact (hp.rest 0).stepClaims (Nat.le_refl _) hv
  · exact (((expiredOnly_claims (.inr rfl) (.inl rfl) (fun _ => True) hi hc (w.st.src i)).sound fun _ => ClaimSource.ne_compound).stepClaims
      ⟨hw, .refl _⟩ hv).2

end Sys2Proof.Machine
end

section
/-! PROOFS. The watchdog's expiry (O54). -/

namespace Sys2Proof.Machine

-- one proof after another: each thread that elaborates costs the check a GiB of its memory limit
set_option Elab.async false

/-! ## The expiry -/

theorem exec_watchdogExpiry {s : State} {n : Nat} (hm : s.mc.mode = .running) (hn : s.dl.watchdog = some n) :
    exec .watchdogExpiry s = .next (finish (occur silenceId 0 ((begin s).map stopWatchdog))) :=
  congrArg Host.Outcome.next ((if_pos ⟨hm, by rw [hn]; rfl⟩).trans (finish_drain _))

theorem stopWatchdog_sound {s : State} (h : s.Sound) : (stopWatchdog s).Sound := sound_tick.watchdog s none h

theorem decision_stopWatchdog (s : State) (i : SourceId) : (stopWatchdog s).decision i = s.decision i := rfl

/-- A Critical's first latch is normal up to a Fault in service (R114). -/
theorem decision_silence_normal {s : State} (h : s.Sound) (hs : ¬(s.severity = 2 ∨ s.severity = 3)) :
    s.decision silenceId = .normal := by
  have hle := severity_le h
  rw [decision_critical h.cls_silence, if_pos (by omega)]

theorem decision_silence_locks {s : State} (h : s.Sound) (hs : s.severity = 2 ∨ s.severity = 3) :
    s.decision silenceId = .lockdown (if s.severity = 2 then 1 else 3) := by
  rw [decision_critical h.cls_silence, if_neg (by omega)]
  split <;> rfl

theorem stackField_congr {s t : State} (h : t.svc.stack.map (·.source) = s.svc.stack.map (·.source)) (k : Nat) :
    t.stackField k = s.stackField k := by
  have field (u : State) : u.stackField k = match (u.svc.stack.map (·.source))[k]? with | some i => sourceBits i | none => 0 := by
    rw [State.stackField, List.getElem?_map]
    cases u.svc.stack[k]? <;> rfl
  rw [field, field, h]

/-! ## The watchdog at a tick -/

/-- What the expiry of the watchdog finds at a tick: the state that the earlier steps have left (R93). -/
structure BeforeWatchdog (s : State) (v : Work) : Prop where
  live     : v.live = true
  sound    : v.st.Sound
  mc       : v.st.mc = s.mc
  dl       : v.st.dl = s.dl
  tc       : v.st.tc.count = s.tc.count + 1
  severity : v.st.severity = s.severity
  field    : v.st.stackField 0 = s.stackField 0
  position : s.arb.nextPosition ≤ v.st.arb.nextPosition
  frame    : TickFrame s v.st
  silence  : ExpiredOnly (s.src silenceId) (v.st.src silenceId)

theorem exec_beforeWatchdog {s : State} {lines : BitVec 24} {readback : Word} (h : s.CountingTick lines readback)
    (ht : ∀ top rest, s.svc.stack = top :: rest → top.deadline.due = false) :
    ∃ v, BeforeWatchdog s v ∧ exec (.scanTick lines readback) s = .next (finish (stepWatchdog v)) := by
  obtain ⟨z, hz, hx⟩ := exec_countedTop h ht
  have hl := claimsLeave (w := (begin z).map countTop) (sound_countTop hz.sound) s.waitingSources
  generalize stepClaims s.waitingSources ((begin z).map countTop) = v at hl hx
  have hbase : ((begin z).map countTop).st = countTop z := rfl
  rw [hbase] at hl
  have hmc : v.st.mc = s.mc := hl.service.mc.trans hz.mc
  have hlive : v.live = true := (live_iff v).mpr (by rw [hmc]; exact h.running)
  have hsources : v.st.svc.stack.map (·.source) = s.svc.stack.map (·.source) := by
    rw [hl.service.svc, ← hz.svc]
    exact map_source_mapTop (f := fun e => { e with deadline := e.deadline.counted }) (fun _ => rfl) _
  have hframe : TickFrame s v.st := (hz.frame.trans (tickFrame_countTop z)).trans hl.frame
  refine ⟨v, ⟨hlive, hl.sound, hmc, hl.service.dl.trans hz.dl, ?_, severity_congr hsources fun i => (hframe.words i).1,
    stackField_congr hsources 0, ?_, hframe, ?_⟩, ?_⟩
  · rw [hl.tc]
    exact hz.tc
  · rw [← hz.arb]
    exact hl.position
  · have := hl.other silenceId (by rintro (h | h) <;> cases h) (by decide)
    rwa [show (countTop z).src silenceId = s.src silenceId from hz.src _] at this
  · rwa [ifLive_of_live hlive] at hx

/-- Settles O54. -/
theorem watchdogExpiryRaisesSilence : Obligations.WatchdogExpiryRaisesSilence := by
  unfold Obligations.WatchdogExpiryRaisesSilence
  dsimp only
  intro s n hm hn
  have run := exec_watchdogExpiry hm hn
  have hlive : ((begin s).map stopWatchdog).live = true := (live_iff _).mpr hm
  refine ⟨fun hs => ?_, fun hs => ?_, fun hs hr => ?_, fun hs hr => ?_, fun hleg hq hst => ?_,
    fun top rest hleg hq hst hr => ?_, fun top rest hleg hq hst hc => ?_, fun lines readback h h1 ht => ?_⟩
  · rw [run, occur_disarmed (w := (begin s).map stopWatchdog) hs]
    rfl
  · rw [run, occur_counted hlive (.inl hs), ← satInc_eq]
    rfl
  · rw [run, occur_repeats hlive 0 hs hr, ← satInc_eq]
    rfl
  · rw [run, occur_discards hlive 0 hs hr]
    rfl
  · have hsound := stopWatchdog_sound hleg.sound
    have hd : (stopWatchdog s).decision silenceId = .normal := by
      refine decision_silence_normal hsound ?_
      rcases hst with hst | ⟨top, rest, hst, hr⟩
      · simp [State.severity, stopWatchdog, hst]
      · rw [hsound.severity_top (s := stopWatchdog s) hst]
        show ¬(s.rank top.source = 2 ∨ s.rank top.source = 3)
        omega
    obtain ⟨u, hu, he⟩ := finish_latched (w := (begin s).map stopWatchdog) hsound hlive (by decide) (by decide) hq hd 0
    refine ⟨_, run.trans (congrArg Host.Outcome.next he), congrArg Source.state hu.source, congrArg Source.count hu.source,
      congrArg Source.detail hu.source, congrArg Source.latch hu.source, List.mem_map.mpr ⟨_, hu.joined, rfl⟩, hu.svc, hu.mc,
      congrArg DeadlineUnit.watchdog hu.dl, fun hw => ?_, fun hw => (congrArg ActuationUnit.sets (hu.sets hw) :)⟩
    exact hu.binds hw (hleg.sound.names_set (i := silenceId) (by rw [hq]; decide) (by rw [hw]; decide))
  · have hsound := stopWatchdog_sound hleg.sound
    have hd : (stopWatchdog s).decision silenceId = .lockdown 1 := by
      rw [decision_critical hsound.cls_silence, hsound.severity_top (s := stopWatchdog s) hst]
      show (if s.rank top.source = 0 ∨ s.rank top.source = 1 then _ else if s.rank top.source = 2 then _ else _) = _
      rw [hr]
      rfl
    rw [run, finish_locked hlive hq hd]
    exact congrArg (fun b => Host.Outcome.next (endHappening ((stopWatchdog s).lockedBy 1 (some silenceId) b)))
      (hsound.secondSource_top hst (.inl rfl))
  · have hsound := stopWatchdog_sound hleg.sound
    have hrank : s.rank top.source = 3 := if_pos hc
    have hd : (stopWatchdog s).decision silenceId = .lockdown 3 := by
      rw [decision_critical hsound.cls_silence, hsound.severity_top (s := stopWatchdog s) hst]
      show (if s.rank top.source = 0 ∨ s.rank top.source = 1 then _ else if s.rank top.source = 2 then _ else _) = _
      rw [hrank]
      rfl
    rw [run, finish_locked hlive hq hd]
    rfl
  · subst h1
    have hsound := h.legal.sound
    obtain ⟨v, hv, hx⟩ := exec_beforeWatchdog h ht
    have hstep : stepWatchdog v = occurAll silenceId 0 (v.map stopWatchdog) := by
      rw [stepWatchdog, hv.dl, hn]
      rfl
    have hlive' : (v.map stopWatchdog).live = true := hv.live
    have hsound' : (v.map stopWatchdog).st.Sound := stopWatchdog_sound hv.sound
    have hstate : ((v.map stopWatchdog).st.src silenceId).state = (s.src silenceId).state := hv.silence.state
    have hcount : ((v.map stopWatchdog).st.src silenceId).count = (s.src silenceId).count := hv.silence.count
    have hsame (hp : (s.src silenceId).state ≠ .pending) : (v.map stopWatchdog).st.src silenceId = s.src silenceId :=
      hv.silence.same hp
    have hposition : s.arb.nextPosition ≤ (v.map stopWatchdog).st.arb.nextPosition := hv.position
    have htick : (v.map stopWatchdog).st.tc.count = s.tc.count + 1 := hv.tc
    have hsafe : (v.map stopWatchdog).st.act.safe = s.act.safe := hv.frame.levels.2.1
    have hdl : (v.map stopWatchdog).st.dl.watchdog = none := rfl
    have hmc : (v.map stopWatchdog).st.mc = s.mc := hv.mc
    have hfield : (v.map stopWatchdog).st.stackField 0 = s.stackField 0 := hv.field
    have hseverity : (v.map stopWatchdog).st.severity = s.severity := hv.severity
    rw [hstep] at hx
    generalize v.map stopWatchdog = w at *
    have hnormal (hl : ¬(s.severity = 2 ∨ s.severity = 3)) : w.st.decision silenceId = .normal :=
      decision_silence_normal hsound' (by rw [← hseverity] at hl; exact hl)
    have hend := journalFrame_occurAll hsound' (i := silenceId) (by decide) 0
    have hunits := frame_occur silenceId 0 w
    have hmode := mc_occur (w := w) (i := silenceId) (d := 0)
    have hlatched hq hi hj hd := occurAll_latched hsound' hlive' (i := silenceId) hq hi hj hd 0
    have hlocked hq cause hd := occurAll_locked hsound' hlive' (i := silenceId) hq (cause := cause) hd 0
    have hxu : exec (.scanTick lines readback) s = .next (endHappening (occurAll silenceId 0 w).st) :=
      hx.trans (congrArg Host.Outcome.next (finish_drain _))
    have hother := (hend.other silenceId (by decide)).1
    generalize (occurAll silenceId 0 w).st = u at *
    refine ⟨_, hxu, ?_, ?_, fun hl => ?_, fun hs => ?_, fun hs => ?_, fun hs hr => ?_, fun hs hr => ?_, fun hq hl => ?_,
      fun hl => ?_⟩
    · rw [endHappening_tc, hend.tc, hunits.tc, htick]
    · rw [endHappening_dl, hend.dl, hunits.dl, hdl]
    · rw [endHappening_mc, hend.mc, hmode fun hq => hnormal fun hsev => hl ⟨hstate ▸ hq, hsev⟩, hmc]
    · rw [src_endHappening, hother, occur_disarmed (by rw [hstate]; exact hs), hsame (by rw [hs]; decide)]
    · rw [src_endHappening, hother, occur_counts hlive' 0 (.inl (hstate.trans hs)), src_setSrc_self, hcount, satInc_eq]
      exact ⟨hstate.trans hs, rfl, rfl⟩
    · have hx' := hsame (by rw [hs]; decide)
      rw [src_endHappening, hother, occur_keepsBack hlive' 0 (hstate.trans hs) (by rw [hx']; exact hr), src_setSrc_self,
        hx', satInc_eq]
    · have hx' := hsame (by rw [hs]; decide)
      rw [src_endHappening, hother, occur_discards hlive' 0 (hstate.trans hs) (by rw [hx']; exact hr), hx']
    · have hx' := hsame (by rw [hq]; decide)
      have hu := hlatched (hstate.trans hq) (by decide) (by decide) (hnormal fun hsev => hl ⟨hq, hsev⟩)
      have hjoined := hu.joined
      have hbinds := hu.binds
      rw [hx'] at hjoined hbinds
      rw [src_endHappening, hu.source]
      exact ⟨rfl, rfl, rfl, ⟨_, rfl, hposition, htick⟩, hjoined,
        fun hw => hbinds hw (hsound.names_set (i := silenceId) (by rw [hq]; decide) (by rw [hw]; decide))⟩
    · have hu := hlocked (hstate.trans hl.1) _ (decision_silence_locks hsound' (by rw [hseverity]; exact hl.2))
      obtain ⟨halert, heffective⟩ := endHappening_locked hu.mode
      have hsrc : u.src silenceId = w.st.src silenceId := by
        rw [State.src, hu.srcs]
        rfl
      rw [src_endHappening, hsrc, endHappening_mc, hu.mode, hu.lockrec, hfield, hseverity]
      exact ⟨hsame (by rw [hl.1]; decide), rfl, halert, heffective.trans (by rw [hu.act, hsafe]), rfl⟩

end Sys2Proof.Machine
end

section
/-! PROOFS. The expiry of a service deadline (O51). -/

namespace Sys2Proof.Machine

-- one proof after another: each thread that elaborates costs the check a GiB of its memory limit
set_option Elab.async false

/-! ## The steps after step 5 -/

/-- Steps 6 and 7 of a tick, where the steps before them have not locked the node down (R93, R94). -/
def lateRest (atStart : List SourceId) (w : Work) : Work := ifLive stepWatchdog (ifLive (stepClaims atStart) w)

theorem lateRest_of_not_live {w : Work} (h : w.live = false) (atStart : List SourceId) : lateRest atStart w = w := by
  rw [lateRest, ifLive_of_not_live h, ifLive_of_not_live h]

/-- What steps 6 and 7 and the JOURNAL occurrences at the end keep. -/
theorem LateKeepsOn.lateRest {A V : SourceId → Prop} {P : State → Prop} (h : LateKeepsOn A V Always P) {w : Work}
    (hw : P w.st) {atStart : List SourceId} (hv : ∀ i ∈ atStart, V i) : P (drain (lateRest atStart w)).st :=
  h.engine.drain (ifLive_keeps h.stepWatchdog (ifLive_keeps (fun g => h.stepClaims g hv) hw))

/-- A source in service with an overrun mark keeps both through a tick (R134). -/
theorem overdue_tick (i : SourceId) : TickKeeps fun t => (t.src i).state = .serving ∧ (t.src i).overrun = true where
  engine :=
    { journal := fun _ _ _ _ h => h
      bind := fun _ _ _ h => h
      lock := fun _ _ _ h => h
      mask := fun s j h => by
        rw [selfMask_eq]
        exact h
      latch := fun s j d _ hq _ h => by
        rw [src_latchState, if_neg (by rintro rfl; rw [hq] at h; cases h.1)]
        exact h
      push := fun s j d top _ _ hq _ _ _ _ h => by
        rw [src_pushState]
        split
        · next hc =>
          subst hc
          rw [src_absorbState, if_neg (by rintro rfl; rw [hq] at h; cases h.1)]
          exact ⟨rfl, h.2⟩
        · rw [src_absorbState, if_neg (by rintro rfl; rw [hq] at h; cases h.1)]
          exact h
      full := fun s j d _ _ _ hq _ h => by
        show ((absorbState j d s).src i).state = .serving ∧ ((absorbState j d s).src i).overrun = true
        rw [src_absorbState, if_neg (by rintro rfl; rw [hq] at h; cases h.1)]
        exact h
      count := fun s j d _ hs _ h => by
        rw [countOccurrence, src_setSrc_ne s (by rintro rfl; rw [h.1] at hs; rcases hs with hs | hs <;> cases hs)]
        exact h
      again := fun s j d _ _ _ h => by
        rw [countRepeat, src_setSrc]
        split
        · next hj => subst hj; exact h
        · exact h }
  compare := fun s h => by
    rw [compareReadback_eq]
    exact h
  top := fun _ _ h => h
  overrun := fun s j h => by
    rw [src_setSrc]
    split
    · next hj => subst hj; exact ⟨h.1, rfl⟩
    · exact h
  entry := fun _ _ _ h => h
  expired := fun s j h => by
    rw [src_setSrc]
    split
    · next hj => subst hj; exact h
    · exact h
  watchdog := fun _ _ h => h

/-! ## The expiry -/

/-- The state in which the OVERRUN occurrence of an expiry is processed: the deadline spent and the source marked
(R133). -/
def State.overdueTop (e : StackEntry) (rest : List StackEntry) (s : State) : State :=
  State.setSrc { s with svc := { s.svc with stack := { e with deadline := .spent } :: rest } } e.source
    { s.src e.source with overrun := true }

theorem expireService_eq {w : Work} {e : StackEntry} {rest : List StackEntry} (hs : w.st.svc.stack = e :: rest) :
    expireService e.source w =
      occurAll overrunId ((sourceBits e.source).zeroExtend 16) (w.map (State.overdueTop e rest)) := by
  unfold expireService
  congr 1
  unfold Work.map
  dsimp only
  rw [setTopDeadline_cons (s := w.st.setSrc e.source _) hs]
  rfl

theorem sound_overdueTop {s : State} (h : s.Sound) {e : StackEntry} {rest : List StackEntry}
    (hs : s.svc.stack = e :: rest) : (s.overdueTop e rest).Sound := by
  have := sound_tick.overrun _ e.source (sound_tick.top s .spent h)
  rwa [setTopDeadline_cons hs] at this

theorem exec_serviceDeadlineExpiry {s : State} {e : StackEntry} {rest : List StackEntry} {n : Nat}
    (hm : s.mc.mode = .running) (hs : s.svc.stack = e :: rest) (hn : e.deadline = .runningDown n)
    (hi : ¬(e.source = overrunId ∨ e.source = compoundId)) :
    exec .serviceDeadlineExpiry s = .next (finish (occur overrunId ((sourceBits e.source).zeroExtend 16)
      ((begin s).map (State.overdueTop e rest)))) := by
  show Host.Outcome.next (match s.expiringTop with | some i => _ | none => _) = _
  rw [expiringTop_of_running hm hs hn]
  dsimp only
  rw [if_neg hi, expireService_eq (w := begin s) hs, occurAll, finish_drain]

theorem src_overdueTop {s : State} {e : StackEntry} (rest : List StackEntry) {i : SourceId} (hi : e.source ≠ i) :
    (s.overdueTop e rest).src i = s.src i := src_setSrc_ne _ hi _

/-- OVERRUN's decision over an ordinary top (R114). -/
theorem decision_overrun {s : State} (h : s.Sound) {e : StackEntry} {rest : List StackEntry}
    (hs : s.svc.stack = e :: rest) (hi : e.source ≠ compoundId) :
    s.decision overrunId = if s.rank e.source ≠ 0 ∧ s.compoundEnable = true then .compound else .normal := by
  have hle := h.severity_top hs ▸ severity_le h
  have hne : s.rank e.source ≠ 3 := fun g => hi (h.compound_of_rank hs g)
  rw [decision_fault (h.cls_fault (.inl rfl)), h.severity_top hs]
  by_cases h0 : s.rank e.source = 0
  · simp [h0]
  · rw [if_neg h0, if_pos (by omega)]
    simp [h0]

theorem severity_overdueTop {s : State} {e : StackEntry} {rest : List StackEntry} (hs : s.svc.stack = e :: rest) :
    (s.overdueTop e rest).severity = s.severity := by
  refine severity_congr ?_ fun i => ?_
  · rw [hs]
    rfl
  · rw [State.overdueTop, src_setSrc]
    split
    · next hi => subst hi; rfl
    · rfl

theorem decision_overdueTop {s : State} {e : StackEntry} {rest : List StackEntry} (hs : s.svc.stack = e :: rest)
    (hi : e.source ≠ overrunId) : (s.overdueTop e rest).decision overrunId = s.decision overrunId := by
  rw [State.decision, severity_overdueTop hs, src_overdueTop rest hi]
  rfl

/-- A Notice, and a Fault over an ordinary top, does not lock the node down: what OVERRUN's occurrence makes of the state
(R84, R85, R114 to R118, R134). -/
structure Overran (s : State) (e : StackEntry) (rest : List StackEntry) (u : State) : Prop where
  top      : (u.src e.source).state = .serving ∧ (u.src e.source).overrun = true
  counted  : (s.src overrunId).state = .pending ∨ (s.src overrunId).state = .absorbed →
    u.src overrunId = { s.src overrunId with
      count := satInc (s.src overrunId).count, detail := (sourceBits e.source).zeroExtend 16 }
  repeated : (s.src overrunId).state = .serving → (s.src overrunId).repeats = true →
    u.src overrunId = { s.src overrunId with
      repeatCount := satInc (s.src overrunId).repeatCount, detail := (sourceBits e.source).zeroExtend 16 }
  dropped  : (s.src overrunId).state = .serving → (s.src overrunId).repeats = false → u.src overrunId = s.src overrunId
  svc      : ((s.src overrunId).state = .quiet → s.decision overrunId = .normal) →
    u.svc = { s.svc with stack := { e with deadline := .spent } :: rest } ∧ u.mc = s.mc
  latched  : (s.src overrunId).state = .quiet → s.decision overrunId = .normal →
    u.src overrunId = { s.src overrunId with
      state := .pending, count := 1, detail := (sourceBits e.source).zeroExtend 16, expired := false
      latch := some { position := s.arb.nextPosition, tick := s.tc.count } }
    ∧ { source := overrunId, deadline := (s.src overrunId).freshClaimDeadline } ∈ u.arb.waiting
    ∧ ((s.src overrunId).reactWhen = .atLatch → (s.src overrunId).reactionSet ≠ 0 →
      u.bound (setOf (s.src overrunId).reactionSet.toNat) overrunId)
  absorbed : (s.src overrunId).state = .quiet → s.decision overrunId = .compound →
    u.src overrunId = { s.src overrunId with
      state := .absorbed, count := 1, detail := (sourceBits e.source).zeroExtend 16
      latch := some { position := s.arb.nextPosition, tick := s.tc.count } }
  pushed   : (s.src overrunId).state = .quiet → s.decision overrunId = .compound → rest.length < 3 →
    u.mc = s.mc ∧ u.svc = { s.svc with
      stack := { source := compoundId, announced := false, deadline := (s.src compoundId).freshServiceDeadline }
        :: { e with deadline := .spent } :: rest
      comprec0 := compoundPair e.source overrunId
      comprec1 := s.tc.count.extractLsb' 0 16 }
  overfull : (s.src overrunId).state = .quiet → s.decision overrunId = .compound → ¬rest.length < 3 →
    u.mc.mode = .lockdown ∧ u.svc = { s.svc with stack := { e with deadline := .spent } :: rest } ∧ u.dl = s.dl
    ∧ u.mc.lockrec = 4#4 ++ 0#2 ++ 25#5 ++ sourceBits e.source

theorem overran {w : Work} (hw : w.st.Sound) (hl : w.live = true) {e : StackEntry} {rest : List StackEntry}
    (hs : w.st.svc.stack = e :: rest) (hi : e.source ≠ overrunId) (hc : e.source ≠ compoundId) :
    Overran w.st e rest (occurAll overrunId ((sourceBits e.source).zeroExtend 16) (w.map (State.overdueTop e rest))).st := by
  have hsound : (w.map (State.overdueTop e rest)).st.Sound := sound_overdueTop hw hs
  have hlive : (w.map (State.overdueTop e rest)).live = true := hl
  have hx : (w.map (State.overdueTop e rest)).st.src overrunId = w.st.src overrunId := src_overdueTop rest hi
  have hd : (w.map (State.overdueTop e rest)).st.decision overrunId = w.st.decision overrunId :=
    decision_overdueTop hs hi
  have hstack : (w.map (State.overdueTop e rest)).st.svc.stack = { e with deadline := .spent } :: rest := rfl
  have htop := (overdue_tick e.source).engine.occurAll (w := w.map (State.overdueTop e rest)) (i := overrunId)
    (by
      have hself : (w.map (State.overdueTop e rest)).st.src e.source =
        { w.st.src e.source with overrun := true } := src_setSrc_self _ _ _
      rw [hself]
      exact ⟨hw.serving_of_top hs, rfl⟩) (by decide) ((sourceBits e.source).zeroExtend 16)
  have hend := journalFrame_occurAll hsound (i := overrunId) (by decide) ((sourceBits e.source).zeroExtend 16)
  have hother := (hend.other overrunId (by decide)).1
  have hsvc : (w.map (State.overdueTop e rest)).st.svc = { w.st.svc with stack := { e with deadline := .spent } :: rest } := rfl
  have hmc : (w.map (State.overdueTop e rest)).st.mc = w.st.mc := rfl
  have hst : (w.map (State.overdueTop e rest)).st = w.st.overdueTop e rest := rfl
  generalize w.map (State.overdueTop e rest) = v at *
  have hcompound : v.st.src compoundId = w.st.src compoundId := by
    rw [hst]
    exact src_overdueTop rest hc
  have htc : v.st.tc = w.st.tc := by rw [hst]; rfl
  have harb : v.st.arb = w.st.arb := by rw [hst]; rfl
  have hdl : v.st.dl = w.st.dl := by rw [hst]; rfl
  have hpush (hlen : rest.length < 3) : v.st.svc.stack.length < Config.stackLimit := by
    rw [hstack]
    exact Nat.succ_lt_succ hlen
  have hfull (hlen : ¬rest.length < 3) : ¬v.st.svc.stack.length < Config.stackLimit := by
    rw [hstack]
    exact fun g => hlen (Nat.lt_of_succ_lt_succ g)
  refine ⟨htop, fun h => ?_, fun h hr => ?_, fun h hr => ?_, fun h => ?_, fun h hn => ?_, fun h hd' => ?_,
    fun h hd' hlen => ?_, fun h hd' hlen => ?_⟩
  · rw [hother, occur_counts hlive _ (by rw [hx]; exact h), src_setSrc_self, hx]
  · rw [hother, occur_keepsBack hlive _ (by rw [hx]; exact h) (by rw [hx]; exact hr), src_setSrc_self, hx]
  · rw [hother, occur_discards hlive _ (by rw [hx]; exact h) (by rw [hx]; exact hr), hx]
  · have hn : (v.st.src overrunId).state = .quiet → v.st.decision overrunId = .normal := by
      rw [hx, hd]
      exact h
    exact ⟨hend.svc.trans ((svc_occur hn _).trans hsvc), hend.mc.trans ((mc_occur hn _).trans hmc)⟩
  · obtain ⟨-, -, -, -, hsource, -, -, hjoined, -, hbinds, -⟩ := occurAll_latched hsound hlive (by rw [hx]; exact h)
      (by decide) (by decide) (hd.trans hn) ((sourceBits e.source).zeroExtend 16)
    rw [latchedSource, hx, harb, htc] at hsource
    rw [hx] at hjoined hbinds
    exact ⟨hsource, hjoined, hbinds⟩
  · by_cases hlen : rest.length < 3
    · have hu := occurAll_escalated hsound hlive (by rw [hx]; exact h) (by decide) (by decide) (hd.trans hd') hstack
        (hpush hlen) ((sourceBits e.source).zeroExtend 16)
      rw [hu.source, hx, harb, htc]
    · have hu := occurAll_overfull hlive (by rw [hx]; exact h) (hd.trans hd') hstack (hfull hlen)
        ((sourceBits e.source).zeroExtend 16)
      rw [hu.source, hx, harb, htc]
  · have hu := occurAll_escalated hsound hlive (by rw [hx]; exact h) (by decide) (by decide) (hd.trans hd') hstack
      (hpush hlen) ((sourceBits e.source).zeroExtend 16)
    exact ⟨hu.mc.trans hmc, hu.svc.trans (by rw [hsvc, hcompound, htc])⟩
  · have hu := occurAll_overfull hlive (by rw [hx]; exact h) (hd.trans hd') hstack (hfull hlen)
      ((sourceBits e.source).zeroExtend 16)
    exact ⟨hu.mode, hu.svc.trans hsvc, hu.dl.trans hdl, hu.lockrec⟩

/-- What steps 6 and 7 and the end leave alone (R93). -/
structure LateLeave (atStart : List SourceId) (s u : State) : Prop where
  svc   : u.svc = s.svc
  tc    : u.tc = s.tc
  other : ∀ i, ¬LateSource i → i ≠ compoundId → ExpiredOnly (s.src i) (u.src i)
  entry : ∀ p ∈ s.arb.waiting, p.source ∉ atStart → p ∈ u.arb.waiting

theorem lateLeave {w : Work} (hw : w.st.Sound) (atStart : List SourceId) :
    LateLeave atStart w.st (drain (lateRest atStart w)).st := by
  have hv : ∀ i ∈ atStart, i ∈ atStart := fun _ h => h
  have htc := tc_tick w.st.tc
  have hl : LateKeepsOn LateSource (· ∈ atStart) Always fun s => s.Sound ∧ s.svc = w.st.svc :=
    (svc_late _ w.st.svc).sound fun _ => LateSource.ne_compound
  refine ⟨(hl.lateRest ⟨hw, rfl⟩ hv).2, ((htc.rest 0).toLateKeepsOn).lateRest rfl fun _ _ => trivial, fun i hi hc => ?_,
    fun p hp hn => ((entry_rest (V := (· ∈ atStart)) hn 0).toLateKeepsOn).lateRest hp hv⟩
  have ho := (expiredOnly_late (.inr (.inr rfl)) (.inr (.inl rfl)) (.inl rfl) (· ∈ atStart) hi hc (w.st.src i)).sound
    fun _ => LateSource.ne_compound
  exact (ho.lateRest ⟨hw, .refl _⟩ hv).2

theorem Ticked.decision {s z : State} (h : Ticked s z) (i : SourceId) : z.decision i = s.decision i := by
  have hsev : z.severity = s.severity := severity_congr (by rw [h.svc]) fun j => by rw [h.src]
  rw [State.decision, State.decision, h.src, hsev, State.compoundEnable, State.compoundEnable, h.frame.regs]

/-- A counting tick whose count of an ordinary top ends its deadline (R132 to R134). -/
theorem exec_overrunTick {s : State} {lines : BitVec 24} {readback : Word} (h : s.CountingTick lines readback)
    {e : StackEntry} {rest : List StackEntry} (hs : s.svc.stack = e :: rest) (hn : e.deadline = .runningDown 1)
    (hi : e.source ≠ overrunId) (hc : e.source ≠ compoundId) :
    ∃ z v u : State, Ticked s z ∧ Overran z e rest v ∧ v.tc = z.tc ∧ LateLeave s.waitingSources v u
      ∧ (u.src e.source).overrun = true ∧ (u.src e.source).state = (s.src e.source).state
      ∧ (v.mc.mode = .lockdown → u = v)
      ∧ exec (.scanTick lines readback) s = .next (endHappening u) := by
  obtain ⟨z, hz, hx⟩ := exec_countingTick h
  have hs' : (begin z).st.svc.stack = e :: rest := hz.svc ▸ hs
  have hlive : (begin z).live = true := (live_iff _).mpr ((congrArg ModeUnit.mode hz.mc).trans h.running)
  have hov := overran (w := begin z) hz.sound hlive hs' hi hc
  have hsound := sound_tick.engine.occurAll (w := (begin z).map (State.overdueTop e rest)) (i := overrunId)
    (sound_overdueTop hz.sound hs') (by decide) ((sourceBits e.source).zeroExtend 16)
  have htc : (occurAll overrunId ((sourceBits e.source).zeroExtend 16) ((begin z).map (State.overdueTop e rest))).st.tc =
    z.tc := (frame_occurAll _ _ _).tc
  have hstep : lateSteps s.svc.stack.length s.waitingSources (begin z) =
      lateRest s.waitingSources (occurAll overrunId ((sourceBits e.source).zeroExtend 16)
        ((begin z).map (State.overdueTop e rest))) := by
    rw [lateSteps, show s.svc.stack.length = rest.length + 1 by rw [hs]; rfl, stepService_due hs' hn, expireTop,
      if_neg (by rintro (g | g) <;> contradiction), expireService_eq hs']
    rfl
  rw [hstep] at hx
  generalize occurAll overrunId _ _ = w at hov hsound htc hx
  have hover := overdue_tick e.source
  obtain ⟨hstate, hmark⟩ := ((hover.rest 0).toLateKeepsOn).lateRest hov.top (atStart := s.waitingSources)
    fun _ _ => trivial
  refine ⟨z, w.st, _, hz, hov, htc, lateLeave hsound _, hmark, ?_, fun hm => ?_, hx⟩
  · rw [hstate, h.legal.sound.serving_of_top hs]
  · have hdead := not_live_of_lockdown hm
    rw [lateRest_of_not_live hdead, drain_st_of_not_live hdead]

/-- Settles O51. -/
theorem serviceExpiryRaisesOverrun : Obligations.ServiceExpiryRaisesOverrun := by
  unfold Obligations.ServiceExpiryRaisesOverrun
  dsimp only
  intro s e rest n hm hs hn hi hc
  have run := exec_serviceDeadlineExpiry hm hs hn (by rintro (h | h) <;> contradiction)
  have hlive : ((begin s).map (State.overdueTop e rest)).live = true := (live_iff _).mpr hm
  have hx : ((begin s).map (State.overdueTop e rest)).st.src overrunId = s.src overrunId := src_overdueTop rest hi
  refine ⟨fun h => ?_, fun h hr => ?_, fun h hr => ?_, fun h hleg hcase => ?_, fun h hleg hr he => ?_,
    fun lines readback h h1 => ?_⟩
  · rw [run, occur_counted hlive (by rw [hx]; exact h), finish_of_nil (by rfl), map_st, countOccurrence, hx, satInc_eq]
    rfl
  · rw [run, occur_repeats hlive _ (by rw [hx]; exact h) (by rw [hx]; exact hr), finish_of_nil (by rfl), map_st,
      countRepeat, hx, satInc_eq]
    rfl
  · rw [run, occur_discards hlive _ (by rw [hx]; exact h) (by rw [hx]; exact hr), finish_of_nil (by rfl)]
    rfl
  · have hov : Overran s e rest (occurAll overrunId _ _).st :=
      overran (w := begin s) hleg.sound ((live_iff _).mpr hm) hs hi hc
    have hd : s.decision overrunId = .normal := by
      rw [decision_overrun hleg.sound hs hc, if_neg]
      rintro ⟨h0, he⟩
      rcases hcase with hcase | ⟨-, hcase⟩
      · exact h0 hcase
      · rw [he] at hcase
        cases hcase
    have hset := hleg.sound.names_set (i := overrunId) (by rw [h]; decide)
    replace run : exec .serviceDeadlineExpiry s = .next (endHappening (occurAll overrunId _ _).st) := run
    generalize (occurAll overrunId _ _).st = u at hov run
    obtain ⟨hstate, hmark⟩ := hov.top
    obtain ⟨hsvc, hmc⟩ := hov.svc fun _ => hd
    obtain ⟨hsource, hjoined, hbinds⟩ := hov.latched h hd
    refine ⟨_, run, hmark, hstate.trans (hleg.sound.serving_of_top hs).symm, hsvc, ?_, ?_, ?_, ?_,
      List.mem_map.mpr ⟨_, hjoined, rfl⟩, fun hw => hbinds hw (hset (by rw [hw]; decide))⟩
    · rw [src_endHappening, hsource]
    · rw [src_endHappening, hsource]
    · rw [src_endHappening, hsource]
    · rw [endHappening_mc, hmc, hm]
  · have hov : Overran s e rest (occurAll overrunId _ _).st :=
      overran (w := begin s) hleg.sound ((live_iff _).mpr hm) hs hi hc
    have hd : s.decision overrunId = .compound := by
      rw [decision_overrun hleg.sound hs hc, if_pos ⟨by omega, he⟩]
    replace run : exec .serviceDeadlineExpiry s = .next (endHappening (occurAll overrunId _ _).st) := run
    generalize (occurAll overrunId _ _).st = u at hov run
    obtain ⟨hstate, hmark⟩ := hov.top
    have hsource := hov.absorbed h hd
    refine ⟨_, run, hmark, hstate.trans (hleg.sound.serving_of_top hs).symm, ?_, ?_, ?_, fun hlen => ?_, fun hlen => ?_⟩
    · rw [src_endHappening, hsource]
    · rw [src_endHappening, hsource]
    · rw [src_endHappening, hsource]
    · obtain ⟨hmc, hsvc⟩ := hov.pushed h hd hlen
      have hmode : u.mc.mode = .running := by rw [hmc, hm]
      refine ⟨hmode, ?_, ?_, ?_, ?_⟩
      · rw [endHappening_alert, alertCondition_iff, hsvc]
        exact .inr ⟨hmode, .inr ⟨_, List.mem_cons_self, rfl, rfl⟩⟩
      · rw [endHappening_svc, hsvc]
        rfl
      · rw [endHappening_svc, hsvc]
        rfl
      · rw [endHappening_svc, hsvc]
    · obtain ⟨hmode, hsvc, -, hrec⟩ := hov.overfull h hd (by omega)
      exact ⟨hmode, hsvc, hrec⟩
  · subst h1
    have hsound := h.legal.sound
    obtain ⟨z, v, u, hz, hov, htc, hl, hmark, hstate, hlock, hx⟩ := exec_overrunTick h hs hn hi hc
    have hd := decision_overrun hsound hs hc
    have hnew : ¬LateSource overrunId := by rintro (g | g | g) <;> cases g
    have hy := hl.other overrunId hnew (by decide)
    have hcompounds (g : (s.src overrunId).state = .quiet ∧ s.rank e.source ≠ 0 ∧ s.compoundEnable = true) :
        z.decision overrunId = .compound := by rw [hz.decision, hd, if_pos g.2]
    have hnormal (hq : (s.src overrunId).state = .quiet)
        (g : ¬((s.src overrunId).state = .quiet ∧ s.rank e.source ≠ 0 ∧ s.compoundEnable = true)) :
        z.decision overrunId = .normal := by rw [hz.decision, hd, if_neg fun k => g ⟨hq, k⟩]
    obtain ⟨-, hcounted, hrepeated, hdropped, hsvc, hlatched, habsorbed, hpushed, hfull⟩ := hov
    rw [hz.src] at hcounted hrepeated hdropped hsvc hlatched habsorbed hpushed hfull
    rw [hz.svc] at hsvc hpushed hfull
    rw [hz.arb, hz.tc] at hlatched habsorbed
    rw [hz.src] at hpushed
    refine ⟨_, hx, ?_, hmark, hstate, fun hn => ?_, fun hs' => ?_, fun hs' hr => ?_, fun hs' hr => ?_, fun hq => ?_,
      fun hq hn => ?_, fun hq => ?_⟩
    · rw [endHappening_tc, hl.tc, htc, hz.tc]
    · rw [endHappening_svc, hl.svc, (hsvc fun hq => hnormal hq hn).1]
    · have hv := hcounted hs'
      rw [src_endHappening, hy.block, hv, satInc_eq]
      exact ⟨rfl, rfl, rfl⟩
    · have hv := hrepeated hs' hr
      rw [src_endHappening, hy.same (by rw [hv, hs']; decide), hv, satInc_eq]
    · have hv := hdropped hs' hr
      rw [src_endHappening, hy.same (by rw [hv, hs']; decide), hv]
    · rw [src_endHappening, hy.block]
      by_cases hn : (s.src overrunId).state = .quiet ∧ s.rank e.source ≠ 0 ∧ s.compoundEnable = true
      · rw [habsorbed hq (hcompounds hn)]
        exact ⟨rfl, rfl, rfl⟩
      · rw [(hlatched hq (hnormal hq hn)).1]
        exact ⟨rfl, rfl, rfl⟩
    · obtain ⟨hv, hjoined, -⟩ := hlatched hq (hnormal hq hn)
      refine ⟨by rw [src_endHappening, hy.block, hv], hl.entry _ hjoined fun hm => ?_⟩
      have := hsound.pending_of_mem hm
      rw [hq] at this
      cases this
    · have hv := habsorbed hq.1 (hcompounds hq)
      refine ⟨by rw [src_endHappening, hy.block, hv], fun hlen => ?_, fun hlen => ?_⟩
      · obtain ⟨-, hpush⟩ := hpushed hq.1 (hcompounds hq) hlen
        rw [endHappening_svc, hl.svc, hpush]
        exact ⟨rfl, rfl⟩
      · obtain ⟨hmode, hkept, hdl, hrec⟩ := hfull hq.1 (hcompounds hq) (by omega)
        rw [hlock hmode]
        exact ⟨hmode, hkept, hdl.trans hz.dl, hrec⟩

end Sys2Proof.Machine
end

section
/-! PROOFS. The expiry of a claim deadline: what the sources and entries of the list keep, and the expiry alone. -/

namespace Sys2Proof.Machine

-- one proof after another: each thread that elaborates costs the check a GiB of its memory limit
set_option Elab.async false

/-! ## Pending sources and their entries -/

/-- The source is Pending, its mask bit is `masked`, and it has its claim-deadline mark where `mark` is set. -/
structure State.Waits (t : State) (i : SourceId) (masked mark : Bool) : Prop where
  state  : (t.src i).state = .pending
  masked : t.masked i = masked
  marked : mark = true → (t.src i).expired = true

/-- Occurrences leave a Pending source Pending, with its mark and its mask bit (R84, R86). -/
theorem waits_engine {i : SourceId} (hc : i ≠ compoundId) (m e : Bool) :
    EngineKeepsOn (· ≠ compoundId) Always fun t => t.Waits i m e where
  derived := by decide
  journal := fun _ _ _ _ _ h => ⟨h.state, h.masked, h.marked⟩
  bind := fun _ _ _ _ h => ⟨h.state, h.masked, h.marked⟩
  lock := fun _ _ _ _ _ _ _ _ _ _ h => ⟨h.state, h.masked, h.marked⟩
  latch := fun s j d _ _ hq _ _ h => by
    have hj : j ≠ i := by
      rintro rfl
      rw [h.state] at hq
      cases hq
    refine ⟨?_, ?_, ?_⟩
    · rw [src_maskedLatch, if_neg hj]
      exact h.state
    · rw [masked_maskedLatch, decide_eq_false hj, Bool.false_and, Bool.or_false]
      exact h.masked
    · rw [src_maskedLatch, if_neg hj]
      exact h.marked
  push := fun s j d top _ _ _ hq _ _ _ _ h => by
    have hj : j ≠ i := by
      rintro rfl
      rw [h.state] at hq
      cases hq
    have hsrc : (pushState top.source j (absorbState j d s)).src i = s.src i := by
      rw [src_pushState, if_neg hc.symm, src_absorbState, if_neg hj]
    have hmask : (pushState top.source j (absorbState j d s)).srcs.mask = s.srcs.mask := rfl
    exact ⟨by rw [hsrc]; exact h.state, by rw [State.masked, hmask]; exact h.masked, by rw [hsrc]; exact h.marked⟩
  full := fun s j d _ _ _ _ hq _ _ _ h => by
    have hj : j ≠ i := by
      rintro rfl
      rw [h.state] at hq
      cases hq
    have hsrc : (absorbState j d s).src i = s.src i := by rw [src_absorbState, if_neg hj]
    exact ⟨hsrc ▸ h.state, h.masked, hsrc ▸ h.marked⟩
  count := fun s j d _ _ _ _ h => by
    refine ⟨?_, h.masked, ?_⟩ <;> rw [countOccurrence, src_setSrc]
    · split
      · next hj => subst hj; exact h.state
      · exact h.state
    · split
      · next hj => subst hj; exact h.marked
      · exact h.marked
  again := fun s j d _ _ hs _ h => by
    have hj : j ≠ i := by
      rintro rfl
      rw [h.state] at hs
      cases hs
    refine ⟨?_, h.masked, ?_⟩ <;> rw [countRepeat, src_setSrc_ne s hj]
    · exact h.state
    · exact h.marked

/-- Occurrences leave the entries of the list in it. -/
theorem entry_engine (p : PendEntry) : EngineKeepsOn (· ≠ compoundId) Always fun t => p ∈ t.arb.waiting :=
  (entry_rest (V := fun _ => False) (p := p) id 0).engine

/-- An entry's deadline is that of its source (R86). -/
theorem claimDeadlineOf_of_unique {s : State} {p : PendEntry} (hp : p ∈ s.arb.waiting)
    (h : ∀ q ∈ s.arb.waiting, q.source = p.source → q = p) : s.claimDeadlineOf p.source = p.deadline := by
  unfold State.claimDeadlineOf
  split
  · next e he => rw [h e (List.mem_of_find?_eq_some he) (by simpa using List.find?_some he)]
  · next hn => exact absurd (List.find?_eq_none.mp hn p hp) (by simp)

/-- One entry for each source (R86). -/
theorem State.Sound.nodup {s : State} (h : s.Sound) : s.waitingSources.Nodup :=
  List.pairwise_map.mpr (h.valid.events.ordered.imp fun g => g.1)

theorem State.Sound.unique {s : State} (h : s.Sound) {p : PendEntry} (hp : p ∈ s.arb.waiting) :
    ∀ q ∈ s.arb.waiting, q.source = p.source → q = p :=
  fun _ hq he => List.inj_on_of_nodup_map h.nodup hq hp he

/-! ## The expiry -/

/-- The state after R129, step 1: the deadline spent and the source marked. -/
def expiredClaim (i : SourceId) (s : State) : State :=
  (setClaimDeadline i .spent s).setSrc i { s.src i with expired := true }

/-- The state in which the STALE occurrence of an expiry is processed: the source's own reaction follows where it asks
for it (R129, steps 1 and 2). -/
def expiredClaimWork (i : SourceId) (w : Work) : Work :=
  if ((w.map (expiredClaim i)).st.src i).reactWhen = .atDeadline then applyReaction i (w.map (expiredClaim i))
  else w.map (expiredClaim i)

theorem expireClaim_eq (i : SourceId) (w : Work) :
    expireClaim i w = occurAll staleId ((sourceBits i).zeroExtend 16) (expiredClaimWork i w) := rfl

theorem src_expiredClaim (i j : SourceId) (s : State) :
    (expiredClaim i s).src j = if i = j then { s.src i with expired := true } else s.src j := src_setSrc _ _ _ _

theorem mem_expiredClaim {i : SourceId} {s : State} {p : PendEntry} (hp : p ∈ s.arb.waiting) :
    (if p.source = i then { p with deadline := .spent } else p) ∈ (expiredClaim i s).arb.waiting :=
  List.mem_map.mpr ⟨p, hp, rfl⟩

theorem sound_expiredClaim {s : State} (h : s.Sound) (i : SourceId) : (expiredClaim i s).Sound :=
  sound_tick.expired _ i (sound_tick.entry s i .spent h)

/-- After the expiry's reaction: another journal, and the set bound (R129, R141). -/
theorem expiredClaimWork_st (i : SourceId) (w : Work) :
    (expiredClaimWork i w).st =
      if (w.st.src i).reactWhen = .atDeadline then (expiredClaim i w.st).applied i else expiredClaim i w.st := by
  have hwhen : ((w.map (expiredClaim i)).st.src i).reactWhen = (w.st.src i).reactWhen := by
    rw [map_st, src_expiredClaim, if_pos rfl]
    rfl
  rw [expiredClaimWork, hwhen, apply_ite Work.st, applyReaction_applied]
  rfl

/-- The reaction is of the actuation unit and the journal. -/
theorem expiredClaimWork_eq (i : SourceId) (w : Work) :
    (expiredClaimWork i w).st = { expiredClaim i w.st with
      act := (expiredClaimWork i w).st.act
      jn := (expiredClaimWork i w).st.jn } := by
  rw [expiredClaimWork_st]
  split
  · exact applied_eq i _
  · rfl

theorem sound_expiredClaimWork {w : Work} (h : w.st.Sound) (i : SourceId) : (expiredClaimWork i w).st.Sound := by
  have hs : (w.map (expiredClaim i)).st.Sound := sound_expiredClaim h i
  rw [expiredClaimWork]
  split
  · exact sound_tick.engine.applyReaction hs i
  · exact hs

theorem live_expiredClaimWork (i : SourceId) (w : Work) : (expiredClaimWork i w).live = w.live := by
  rw [Work.live, Work.live, expiredClaimWork_eq]
  rfl

theorem sourceOf_sourceBits (i : SourceId) : sourceOf (sourceBits i) = i := by
  revert i
  decide

theorem exec_claimDeadlineExpiry {s : State} {i : SourceId} (hm : s.mc.mode = .running) (he : s.eligible i = true)
    (hd : (s.claimDeadlineOf i).runs = true) :
    exec (.claimDeadlineExpiry (sourceBits i)) s =
      .next (finish (occur staleId ((sourceBits i).zeroExtend 16) (expiredClaimWork i (begin s)))) := by
  show Host.Outcome.next (if s.mc.mode = .running ∧ s.eligible (sourceOf (sourceBits i)) ∧
    (s.claimDeadlineOf (sourceOf (sourceBits i))).runs then _ else _) = _
  rw [sourceOf_sourceBits, if_pos ⟨hm, he, hd⟩, expireClaim_eq, occurAll, finish_drain]

theorem expiredClaimWork_never {i : SourceId} {w : Work} (h : (w.st.src i).reactWhen ≠ .atDeadline) :
    expiredClaimWork i w = w.map (expiredClaim i) := by
  refine if_neg fun g => h (Eq.trans ?_ g)
  rw [map_st, src_expiredClaim, if_pos rfl]
  rfl

/-- The expiry of a source that applies its set at its deadline, while the journal is calm (R129, R141). -/
theorem expiredClaimWork_calm {i : SourceId} {w : Work} (h : (w.st.src i).reactWhen = .atDeadline) (hc : w.st.calm 1) :
    expiredClaimWork i w = w.map fun s => (expiredClaim i s).applied i := by
  have hcalm : (w.map (expiredClaim i)).st.calm 1 := by
    refine hc.imp id fun g => ?_
    rw [map_st, src_expiredClaim]
    split
    · next hj => subst hj; exact g
    · exact g
  rw [expiredClaimWork, if_pos, applyReaction_calm hcalm]
  · rfl
  · rw [map_st, src_expiredClaim, if_pos rfl]
    exact h

/-- STALE is a Notice, so that its first latch is normal, and it has no claim deadline of its own (R71, R77, R114). -/
theorem State.Sound.stale {s : State} (h : s.Sound) (hq : (s.src staleId).state = .quiet) :
    s.decision staleId = .normal ∧ (s.src staleId).reactWhen = .never
    ∧ (s.src staleId).freshClaimDeadline = .none := by
  have hcls := h.cls_notice (i := staleId) (.inr (.inl rfl))
  have harmed : (s.src staleId).state ≠ .disarmed := by rw [hq]; decide
  refine ⟨decision_notice hcls, h.when_notice harmed hcls, ?_⟩
  have := h.checks harmed (staleId == staleId && (s.src staleId).claimDeadline != 0) (by simp [armChecks])
  rw [Source.freshClaimDeadline, if_pos (by simpa using this)]

/-- The expiry of the claim deadline while STALE is Quiet (R82, R129). -/
theorem claimExpiry_quiet {w : Work} (hw : w.st.Sound) (hl : w.live = true) {i : SourceId}
    (hq : (w.st.src staleId).state = .quiet) (hi : i ≠ staleId) :
    LatchedFrom (expiredClaimWork i w).st staleId ((sourceBits i).zeroExtend 16) (expireClaim i w).st := by
  have hsound := sound_expiredClaimWork hw i
  have hx : ((expiredClaimWork i w).st.src staleId) = w.st.src staleId := by
    rw [expiredClaimWork_eq]
    exact (src_expiredClaim i staleId w.st).trans (if_neg hi)
  have hq' : ((expiredClaimWork i w).st.src staleId).state = .quiet := by rw [hx]; exact hq
  exact occurAll_latched hsound (by rw [live_expiredClaimWork]; exact hl) hq' (by decide) (by decide) (hsound.stale hq').1 _

/-- What every expiry of a claim deadline leaves: the source Pending with its mark, its entry with the deadline spent,
and its set bound where it reacts at its deadline (R129). -/
structure ClaimExpired (s : State) (i : SourceId) (u : State) : Prop where
  waits : u.Waits i (s.masked i) true
  entry : ∀ p ∈ s.arb.waiting, (if p.source = i then { p with deadline := .spent } else p) ∈ u.arb.waiting
  bound : (s.src i).reactWhen = .atDeadline → u.bound (setOf (s.src i).reactionSet.toNat) i

theorem claimExpired {w : Work} (hw : w.st.Sound) {i : SourceId} (hi : i ∈ w.st.waitingSources) :
    ClaimExpired w.st i (expireClaim i w).st := by
  have hp := hw.pending_of_mem hi
  have hc : i ≠ compoundId := by
    rintro rfl
    rcases hw.valid.events.compound with h | h <;> rw [h] at hp <;> cases hp
  have hx : (expiredClaimWork i w).st.src i = { w.st.src i with expired := true } := by
    rw [expiredClaimWork_eq]
    exact (src_expiredClaim i i w.st).trans (if_pos rfl)
  refine ⟨?_, fun p hm => ?_, fun hwhen => ?_⟩
  · refine (waits_engine hc _ _).occurAll (w := expiredClaimWork i w) ⟨?_, ?_, fun _ => ?_⟩ (by decide) _
    · rw [hx]
      exact hp
    · rw [expiredClaimWork_eq]
      rfl
    · rw [hx]
  · refine (entry_engine _).occurAll (w := expiredClaimWork i w) ?_ (by decide) _
    rw [expiredClaimWork_eq]
    exact mem_expiredClaim hm
  · have hset := hw.names_set (i := i) (by rw [hp]; decide) (by rw [hwhen]; decide)
    have hk := bound_tick (setOf (w.st.src i).reactionSet.toNat) i
    refine hk.engine.occurAll (w := expiredClaimWork i w) ?_ (by decide) _
    rw [expiredClaimWork_st, if_pos hwhen]
    have hself : (expiredClaim i w.st).src i = { w.st.src i with expired := true } :=
      (src_expiredClaim i i w.st).trans (if_pos rfl)
    have := applied_binds (i := i) (s := expiredClaim i w.st) (by rw [hself]; exact hset)
    rw [hself] at this
    exact this

end Sys2Proof.Machine
end

section
/-! PROOFS. The visits of step 6 to the entries of the list, one after another (R93, R128, R129). -/

namespace Sys2Proof.Machine

-- one proof after another: each thread that elaborates costs the check a GiB of its memory limit
set_option Elab.async false

/-! ## One visit -/

/-- The count of the source's claim deadline ends it (R128). -/
def State.claimDue (s : State) (i : SourceId) : Bool := s.eligible i && (s.claimDeadlineOf i).due

/-- An entry after its visit (R128). -/
def State.countedEntry (s : State) (p : PendEntry) : PendEntry :=
  { p with deadline := if s.eligible p.source then p.deadline.counted else p.deadline }

theorem visitEntry_due {w : Work} (hl : w.live = true) {i : SourceId} (hd : w.st.claimDue i = true) :
    visitEntry w i = expireClaim i w := by
  obtain ⟨he, hdue⟩ := Bool.and_eq_true_iff.mp hd
  rw [visitEntry, if_pos (by rw [hl, he]; rfl)]
  cases hc : w.st.claimDeadlineOf i with
  | none => rw [hc] at hdue; cases hdue
  | spent => rw [hc] at hdue; cases hdue
  | runningDown n =>
    rw [hc] at hdue
    exact if_pos (of_decide_eq_true hdue)

/-- The list after the visits to the sources of `l`, at which nothing expires (R128). -/
def countClaims (l : List SourceId) (s : State) : State :=
  { s with arb := { s.arb with
      waiting := s.arb.waiting.map fun p => if p.source ∈ l then s.countedEntry p else p } }

theorem visitEntry_counts {w : Work} (hw : w.st.Sound) (hl : w.live = true) {i : SourceId}
    (hd : w.st.claimDue i = false) : visitEntry w i = w.map (countClaims [i]) := by
  have deadline {p : PendEntry} (hp : p ∈ w.st.arb.waiting) (hi : p.source = i) : w.st.claimDeadlineOf i = p.deadline := by
    subst hi
    exact claimDeadlineOf_of_unique hp (hw.unique hp)
  have update (d : Deadline) (h : ∀ p ∈ w.st.arb.waiting, p.source = i → w.st.countedEntry p = { p with deadline := d }) :
      w.map (setClaimDeadline i d) = w.map (countClaims [i]) := by
    unfold Work.map setClaimDeadline countClaims
    have : w.st.arb.waiting.map (fun p => if p.source = i then { p with deadline := d } else p) =
        w.st.arb.waiting.map fun p => if p.source ∈ [i] then w.st.countedEntry p else p := by
      refine List.map_congr_left fun p hp => ?_
      rw [if_congr List.mem_singleton rfl rfl]
      split
      · next hi => exact (h p hp hi).symm
      · rfl
    rw [this]
  have same (h : ∀ p ∈ w.st.arb.waiting, p.source = i → w.st.countedEntry p = p) : w = w.map (countClaims [i]) := by
    have hlist : w.st.arb.waiting.map (fun p => if p.source ∈ [i] then w.st.countedEntry p else p) = w.st.arb.waiting := by
      refine (List.map_congr_left fun p hp => ?_).trans (List.map_id _)
      split
      · next hi => exact h p hp (List.mem_singleton.mp hi)
      · rfl
    unfold Work.map countClaims
    rw [hlist]
  by_cases he : w.st.eligible i = true
  · rw [State.claimDue, he, Bool.true_and] at hd
    have counted {p : PendEntry} (hi : p.source = i) : w.st.countedEntry p = { p with deadline := p.deadline.counted } := by
      rw [State.countedEntry, hi, if_pos he, ← hi]
    rw [visitEntry, if_pos (by rw [hl, he]; rfl)]
    have stands {d : Deadline} (hc : w.st.claimDeadlineOf i = d) (hd : d.counted = d) : w = w.map (countClaims [i]) :=
      same fun p hp hi => (counted hi).trans (by rw [← deadline hp hi, hc, hd, ← hc, deadline hp hi])
    cases hc : w.st.claimDeadlineOf i with
    | none => exact stands hc rfl
    | spent => exact stands hc rfl
    | runningDown n =>
      rw [hc] at hd
      have hn : ¬n ≤ 1 := of_decide_eq_false hd
      dsimp only
      rw [if_neg hn]
      exact update _ fun p hp hi => (counted hi).trans (by rw [← deadline hp hi, hc, Deadline.counted, if_neg hn])
  · rw [visitEntry, if_neg (by simp [he])]
    exact same fun p _ hi => by rw [State.countedEntry, hi, if_neg he, ← hi]

theorem mem_countClaims (l : List SourceId) {s : State} {p : PendEntry} (hp : p ∈ s.arb.waiting) :
    (if p.source ∈ l then s.countedEntry p else p) ∈ (countClaims l s).arb.waiting := List.mem_map.mpr ⟨p, hp, rfl⟩

/-- A visit leaves the state of a Pending source, its mask bit and its mark (R84, R86). -/
theorem waits_claims {j : SourceId} (hc : j ≠ compoundId) (m e : Bool) :
    ClaimsKeepOn (· ≠ compoundId) (fun _ => True) Always fun t => t.Waits j m e where
  engine := waits_engine hc m e
  stale := by decide
  entry := fun _ _ _ _ _ h => ⟨h.state, h.masked, h.marked⟩
  expired := fun s i _ _ _ h => by
    refine ⟨?_, h.masked, fun he => ?_⟩ <;> rw [src_setSrc]
    · split
      · next hi => subst hi; exact h.state
      · exact h.state
    · split
      · rfl
      · exact h.marked he

/-! ## The occurrences of STALE -/

/-- The detail word of the last of these occurrences (R129). -/
def lastDetail (ds : List SourceId) : Word :=
  match ds.getLast? with
  | some i => (sourceBits i).zeroExtend 16
  | none => 0

theorem lastDetail_concat (ds : List SourceId) (i : SourceId) :
    lastDetail (ds ++ [i]) = (sourceBits i).zeroExtend 16 := by
  rw [lastDetail, List.getLast?_concat]

theorem satInc_ofNat (n : Nat) : satInc (BitVec.ofNat 8 (min 255 n)) = BitVec.ofNat 8 (min 255 (n + 1)) := by
  rw [satInc_eq]
  congr 1
  have : (BitVec.ofNat 8 (min 255 n)).toNat = min 255 n := by
    rw [BitVec.toNat_ofNat]
    omega
  omega

/-- What STALE is after an occurrence for each source of the list `ds` (R82, R84, R85, R129). -/
structure StaleAfter (b : State) (ds : List SourceId) (t : State) : Prop where
  disarmed : (b.src staleId).state = .disarmed → t.src staleId = b.src staleId
  pending  : (b.src staleId).state = .pending →
    (t.src staleId).state = .pending
    ∧ (t.src staleId).count = BitVec.ofNat 8 (min 255 ((b.src staleId).count.toNat + ds.length))
    ∧ (ds ≠ [] → (t.src staleId).detail = lastDetail ds)
  repeated : (b.src staleId).state = .serving → (b.src staleId).repeats = true →
    t.src staleId = { b.src staleId with
      repeatCount := BitVec.ofNat 8 (min 255 ((b.src staleId).repeatCount.toNat + ds.length))
      detail := if ds = [] then (b.src staleId).detail else lastDetail ds }
  dropped  : (b.src staleId).state = .serving → (b.src staleId).repeats = false → t.src staleId = b.src staleId
  waiting  : (b.src staleId).state = .quiet → ds = [] →
    t.src staleId = b.src staleId ∧ t.arb.nextPosition = b.arb.nextPosition
  latched  : (b.src staleId).state = .quiet → ds ≠ [] →
    (t.src staleId).state = .pending ∧ (t.src staleId).detail = lastDetail ds
    ∧ (t.src staleId).count = BitVec.ofNat 8 (min 255 ds.length)
    ∧ (t.src staleId).latch = some { position := b.arb.nextPosition, tick := b.tc.count }
    ∧ { source := staleId, deadline := .none } ∈ t.arb.waiting

theorem byte_min (x : Byte) : BitVec.ofNat 8 (min 255 (x.toNat + 0)) = x := by
  rw [Nat.add_zero, Nat.min_eq_right (by have := x.isLt; omega), BitVec.ofNat_toNat, BitVec.setWidth_eq]

theorem StaleAfter.refl (b : State) : StaleAfter b [] b where
  disarmed := fun _ => rfl
  pending := fun h => ⟨h, (byte_min _).symm, fun g => absurd rfl g⟩
  repeated := fun _ _ => by
    rw [if_pos rfl, List.length_nil, byte_min]
  dropped := fun _ _ => rfl
  waiting := fun _ _ => ⟨rfl, rfl⟩
  latched := fun _ h => absurd rfl h

/-- A visit at which nothing expires leaves STALE (R128). -/
theorem StaleAfter.counted {b s : State} {ds : List SourceId} (h : StaleAfter b ds s) {i : SourceId}
    (hi : i = staleId → (b.src staleId).state = .pending) : StaleAfter b ds (countClaims [i] s) where
  disarmed := h.disarmed
  pending := h.pending
  repeated := h.repeated
  dropped := h.dropped
  waiting := h.waiting
  latched := fun hq hne => by
    obtain ⟨hs, hd, hc, hl, hm⟩ := h.latched hq hne
    have hne' : staleId ∉ [i] := by
      intro g
      obtain rfl := List.mem_singleton.mp g
      rw [hi rfl] at hq
      cases hq
    have := mem_countClaims [i] hm
    rw [if_neg hne'] at this
    exact ⟨hs, hd, hc, hl, this⟩

/-- An expiry is one more occurrence of STALE (R129). -/
theorem StaleAfter.expired {b : State} {ds : List SourceId} {w : Work} (h : StaleAfter b ds w.st) (hw : w.st.Sound)
    (hl : w.live = true) (htc : w.st.tc = b.tc) {i : SourceId} (hi : i = staleId → (b.src staleId).state = .pending) :
    StaleAfter b (ds ++ [i]) (expireClaim i w).st := by
  have hsound := sound_expiredClaimWork hw i
  have hlive : (expiredClaimWork i w).live = true := by rw [live_expiredClaimWork]; exact hl
  have hunits := expiredClaimWork_eq i w
  have hblock : (expiredClaimWork i w).st.src staleId =
      if i = staleId then { w.st.src staleId with expired := true } else w.st.src staleId := by
    rw [hunits]
    refine (src_expiredClaim i staleId w.st).trans ?_
    split
    · next hs => rw [hs]
    · rfl
  have hsame (hs : (b.src staleId).state ≠ .pending) : (expiredClaimWork i w).st.src staleId = w.st.src staleId := by
    rw [hblock, if_neg fun g => hs (hi g)]
  have hend := journalFrame_occurAll hsound (i := staleId) (by decide) ((sourceBits i).zeroExtend 16)
  have hother := (hend.other staleId (by decide)).1
  have hne : ds ++ [i] ≠ [] := by simp
  have hlen : (ds ++ [i]).length = ds.length + 1 := by simp
  rw [expireClaim_eq]
  refine ⟨fun hs => ?_, fun hs => ?_, fun hs hr => ?_, fun hs hr => ?_, fun _ hn => absurd hn hne, fun hq _ => ?_⟩
  · have hx := (hsame (by rw [hs]; decide)).trans (h.disarmed hs)
    rw [hother, occur_disarmed (by rw [hx]; exact hs), hx]
  · obtain ⟨hstate, hcount, -⟩ := h.pending hs
    have hp : ((expiredClaimWork i w).st.src staleId).state = .pending := by
      rw [hblock]
      split <;> exact hstate
    have hc : ((expiredClaimWork i w).st.src staleId).count = (w.st.src staleId).count := by
      rw [hblock]
      split <;> rfl
    rw [hother, occur_counts hlive _ (.inl hp), src_setSrc_self, hc, hcount, satInc_ofNat, lastDetail_concat, hlen]
    exact ⟨hp, rfl, fun _ => rfl⟩
  · have hx := (hsame (by rw [hs]; decide)).trans (h.repeated hs hr)
    rw [hother, occur_keepsBack hlive _ (by rw [hx]; exact hs) (by rw [hx]; exact hr), src_setSrc_self, hx, satInc_ofNat,
      if_neg hne, lastDetail_concat, hlen]
    rfl
  · have hx := (hsame (by rw [hs]; decide)).trans (h.dropped hs hr)
    rw [hother, occur_discards hlive _ (by rw [hx]; exact hs) (by rw [hx]; exact hr), hx]
  · have hx := hsame (by rw [hq]; decide)
    by_cases hds : ds = []
    · subst hds
      obtain ⟨hsrc, hpos⟩ := h.waiting hq rfl
      rw [hsrc] at hx
      have hq' : ((expiredClaimWork i w).st.src staleId).state = .quiet := by rw [hx]; exact hq
      obtain ⟨hd, -, hfresh⟩ := hsound.stale hq'
      have hu := occurAll_latched hsound hlive hq' (by decide) (by decide) hd ((sourceBits i).zeroExtend 16)
      have hjoined := hu.joined
      rw [hfresh] at hjoined
      have hp : (expiredClaimWork i w).st.arb.nextPosition = b.arb.nextPosition := by
        rw [hunits]
        exact hpos
      have ht : (expiredClaimWork i w).st.tc = b.tc := by
        rw [hunits]
        exact htc
      rw [hu.source, latchedSource, hp, ht]
      exact ⟨rfl, rfl, rfl, rfl, hjoined⟩
    · obtain ⟨hstate, -, hcount, hlatch, hm⟩ := h.latched hq hds
      have hp : ((expiredClaimWork i w).st.src staleId).state = .pending := by rw [hx]; exact hstate
      have hentry := (entry_engine { source := staleId, deadline := .none }).occurAll (w := expiredClaimWork i w)
        (i := staleId) (by
          rw [hunits]
          have := mem_expiredClaim (i := i) hm
          rwa [if_neg] at this
          rintro rfl
          rw [hi rfl] at hq
          cases hq) (by decide) ((sourceBits i).zeroExtend 16)
      rw [hother, occur_counts hlive _ (.inl hp), src_setSrc_self, hx, hcount, satInc_ofNat, lastDetail_concat, hlen]
      exact ⟨hstate, rfl, rfl, hlatch, hentry⟩

/-! ## The visits, one after another -/

/-- What step 6 has made of a state once it has visited the sources of the list `l` (R93, R128, R129). -/
structure Visited (b : State) (l : List SourceId) (t : State) : Prop where
  sound   : t.Sound
  mc      : t.mc = b.mc
  tc      : t.tc = b.tc
  frame   : TickFrame b t
  waits   : ∀ j ∈ b.waitingSources, t.Waits j (b.masked j) (l.contains j && b.claimDue j)
  entries : ∀ p ∈ b.arb.waiting, (if p.source ∈ l then b.countedEntry p else p) ∈ t.arb.waiting
  bound   : ∀ j ∈ l, b.claimDue j = true → (b.src j).reactWhen = .atDeadline →
    t.bound (setOf (b.src j).reactionSet.toNat) j
  stale   : StaleAfter b (l.filter b.claimDue) t

theorem Visited.nil {b : State} (h : b.Sound) : Visited b [] b where
  sound := h
  mc := rfl
  tc := rfl
  frame := .refl b
  waits := fun _ hj => ⟨h.pending_of_mem hj, rfl, nofun⟩
  entries := fun p hp => by simpa using hp
  bound := nofun
  stale := .refl b

/-- Eligibility is of the mask bit, the descriptor and POLICY (R89). -/
theorem eligible_congr {s t : State} (h : TickFrame s t) {i : SourceId} (hm : t.masked i = s.masked i) :
    t.eligible i = s.eligible i := by
  have hw := (h.words i).1
  rw [State.eligible, State.eligible, hm, State.threshold, State.threshold, h.regs, State.level, State.level, Source.level,
    Source.level, Source.cls, Source.cls, Source.classBits, Source.classBits, hw]

theorem State.Sound.ne_compound_of_mem {s : State} (h : s.Sound) {i : SourceId} (hi : i ∈ s.waitingSources) :
    i ≠ compoundId := by
  rintro rfl
  have hp := h.pending_of_mem hi
  rcases h.valid.events.compound with g | g <;> rw [g] at hp <;> cases hp

section
variable {b : State} {l : List SourceId} {w : Work} (h : Visited b l w.st) {i : SourceId} (hb : b.Sound)
  (hi : i ∈ b.waitingSources) (hn : i ∉ l)
include h hi

theorem Visited.eligible : w.st.eligible i = b.eligible i := eligible_congr h.frame (h.waits i hi).masked

include hb hn

/-- What a visit looks at has not changed since step 6 began (R128). -/
theorem Visited.claimDue : w.st.claimDue i = b.claimDue i := by
  rw [State.claimDue, State.claimDue, h.eligible hi]
  obtain ⟨p, hp, rfl⟩ := List.mem_map.mp hi
  have hp' := h.entries p hp
  rw [if_neg hn] at hp'
  rw [claimDeadlineOf_of_unique hp (hb.unique hp), claimDeadlineOf_of_unique hp' (h.sound.unique hp')]

theorem Visited.step (hl : w.live = true) : Visited b (l ++ [i]) (visitEntry w i).st := by
  have hdue := h.claimDue hb hi hn
  have heligible := h.eligible hi
  have hi' : i ∈ w.st.waitingSources := (h.sound.valid.events.pending i).mp (h.waits i hi).state
  have hsame := ((sameService_claims (fun _ => True) w.st).sound fun _ => ClaimSource.ne_compound).visitEntry
    (i := i) ⟨h.sound, rfl, rfl, rfl⟩ trivial
  have htc := tc_tick w.st.tc
  have hframe := tickFrame_tick w.st
  have hstale : i = staleId → (b.src staleId).state = .pending := fun e => e ▸ hb.pending_of_mem hi
  have hfilter : (l ++ [i]).filter b.claimDue = l.filter b.claimDue ++ if b.claimDue i then [i] else [] := by
    rw [List.filter_append, List.filter_singleton]
    split <;> simp_all
  refine ⟨hsame.1, hsame.2.mc.trans h.mc, ((htc.rest 0).toLateKeepsOn.visitEntry rfl trivial).trans h.tc,
    h.frame.trans ((hframe.rest 0).toLateKeepsOn.visitEntry (.refl _) trivial), fun j hj => ?_, fun p hp => ?_,
    fun j hj hd hw => ?_, ?_⟩
  · have hw := h.waits j hj
    have hc := hb.ne_compound_of_mem hj
    by_cases hji : j = i
    · subst hji
      have hk : (l ++ [j]).contains j = true := by simp
      rw [hk, Bool.true_and]
      cases hd : b.claimDue j with
      | true =>
        rw [visitEntry_due hl (hdue.trans hd), ← hw.masked]
        exact (claimExpired h.sound hi').waits
      | false => exact (waits_claims hc _ false).visitEntry ⟨hw.state, hw.masked, nofun⟩ trivial
    · have hk : (l ++ [i]).contains j = l.contains j := by simp [hji]
      rw [hk]
      exact (waits_claims hc _ _).visitEntry hw trivial
  · have hp' := h.entries p hp
    by_cases hpi : p.source = i
    · rw [if_neg (by rw [hpi]; exact hn)] at hp'
      rw [if_pos (by simp [hpi])]
      cases hd : b.claimDue i with
      | true =>
        have := (claimExpired h.sound hi').entry p hp'
        rw [if_pos hpi] at this
        rw [visitEntry_due hl (hdue.trans hd)]
        obtain ⟨he, hcount⟩ := Bool.and_eq_true_iff.mp hd
        have hcp := claimDeadlineOf_of_unique hp (hb.unique hp)
        rw [hpi] at hcp
        rw [State.countedEntry, hpi, if_pos he, counted_of_due (hcp ▸ hcount), ← hpi]
        rwa [hpi] at this ⊢
      | false =>
        have := mem_countClaims [i] hp'
        rw [if_pos (List.mem_singleton.mpr hpi), State.countedEntry, hpi, heligible] at this
        rw [visitEntry_counts h.sound hl (hdue.trans hd), State.countedEntry, hpi]
        exact this
    · have hk : p.source ∈ l ++ [i] ↔ p.source ∈ l := by simp [hpi]
      rw [if_congr hk rfl rfl]
      refine (entry_rest (V := (· = i)) (fun g => hpi (Eq.trans ?_ g)) 0).toLateKeepsOn.visitEntry hp' rfl
      split <;> rfl
  · rcases List.mem_append.mp hj with hj | hj
    · have hk := bound_tick (setOf (b.src j).reactionSet.toNat) j
      exact (hk.rest 0).toLateKeepsOn.visitEntry (h.bound j hj hd hw) trivial
    · obtain rfl := List.mem_singleton.mp hj
      have hwords := h.frame.words j
      have hk := (claimExpired h.sound hi').bound
      rw [visitEntry_due hl (hdue.trans hd)]
      rw [Source.reactWhen, Source.reactionSet, hwords.2.1] at hk
      exact hk hw
  · rw [hfilter]
    cases hd : b.claimDue i with
    | true =>
      rw [visitEntry_due hl (hdue.trans hd), if_pos rfl]
      exact h.stale.expired h.sound hl h.tc hstale
    | false =>
      rw [if_neg (by decide), List.append_nil]
      rw [visitEntry_counts h.sound hl (hdue.trans hd)]
      exact h.stale.counted hstale

end

/-- Step 6 as a whole (R93, R128, R129). -/
theorem visited_foldl {b : State} (hb : b.Sound) (hm : b.mc.mode = .running) {l : List SourceId} (hn : l.Nodup)
    (hl : ∀ i ∈ l, i ∈ b.waitingSources) {w : Work} (hw : w.st = b) : Visited b l (l.foldl visitEntry w).st := by
  induction l using List.reverseRecOn with
  | nil =>
    rw [List.foldl_nil, hw]
    exact .nil hb
  | append_singleton l i ih =>
    rw [List.nodup_append] at hn
    obtain ⟨hnl, -, hni⟩ := hn
    have h := ih hnl fun j hj => hl j (List.mem_append_left _ hj)
    rw [List.foldl_append]
    exact h.step hb (hl i (by simp)) (fun g => hni i g i (by simp) rfl) ((live_iff _).mpr (by rw [h.mc]; exact hm))

theorem visited_stepClaims {w : Work} (hb : w.st.Sound) (hm : w.st.mc.mode = .running) :
    Visited w.st w.st.waitingSources (stepClaims w.st.waitingSources w).st := by
  have hall : (w.st.arb.waiting.map (·.source)).filter (fun i => w.st.waitingSources.contains i) =
      w.st.waitingSources := List.filter_eq_self.mpr fun i hi => List.contains_iff_mem.mpr hi
  have := visited_foldl hb hm hb.nodup (fun _ h => h) (w := w) rfl
  rw [stepClaims, hall]
  exact this

end Sys2Proof.Machine
end

section
/-! PROOFS. The expiry of a claim deadline, alone and at its tick (O53). -/

namespace Sys2Proof.Machine

-- one proof after another: each thread that elaborates costs the check a GiB of its memory limit
set_option Elab.async false

/-- What step 7 and the JOURNAL occurrences at the end keep: occurrences of SILENCE and JOURNAL (R137, R156). -/
theorem EngineKeepsOn.watchdogEnd {A : SourceId → Prop} {P : State → Prop} (h : EngineKeepsOn A Always P)
    (hs : A silenceId) (hw : ∀ s o, P s → P { s with dl := { s.dl with watchdog := o } }) {v : Work} (hv : P v.st) :
    P (Machine.drain (ifLive stepWatchdog v)).st := by
  refine h.drain (ifLive_keeps (fun g => ?_) hv)
  unfold stepWatchdog
  split
  · exact g
  · split
    · exact h.occurAll (w := v.map stopWatchdog) (hw _ _ g) hs _
    · exact hw _ _ g

/-- What step 7 and the end leave of the list's sources and entries, of STALE and of the counter. -/
structure WatchdogLeaves (v u : State) : Prop where
  tc    : u.tc = v.tc
  waits : ∀ i m e, i ≠ compoundId → v.Waits i m e → u.Waits i m e
  entry : ∀ p ∈ v.arb.waiting, p ∈ u.arb.waiting
  bound : ∀ k i, v.bound k i → u.bound k i
  stale : u.src staleId = v.src staleId

theorem watchdogLeaves (v : Work) : WatchdogLeaves v.st (drain (ifLive stepWatchdog v)).st where
  tc := by
    have h := tc_tick v.st.tc
    exact h.engine.on.watchdogEnd (by decide) (fun s o g => g) rfl
  waits := fun i m e hc hw => (waits_engine hc m e).watchdogEnd (by decide)
    (fun s o g => ⟨g.state, g.masked, g.marked⟩) hw
  entry := fun p hp => (entry_engine p).watchdogEnd (by decide) (fun s o g => g) hp
  bound := fun k i hb => by
    have h := bound_tick k i
    exact h.engine.on.watchdogEnd (by decide) (fun s o g => h.watchdog s o g) hb
  stale := by
    have h := engine_src (A := fun i => i = silenceId ∨ i = journalId) (.inr rfl) (i := staleId)
      (by rintro (g | g) <;> cases g) (by decide) Always (· = v.st.src staleId)
    exact h.watchdogEnd (.inl rfl) (fun s o g => g) rfl

/-- The claim-deadline steps of a counting tick whose top does not end (R93, R128). -/
theorem exec_claimsTick {s : State} {lines : BitVec 24} {readback : Word} (h : s.CountingTick lines readback)
    (ht : ∀ top rest, s.svc.stack = top :: rest → top.deadline.due = false) :
    ∃ z v u : State, Ticked s z ∧ Visited (countTop z) s.waitingSources v ∧ WatchdogLeaves v u
      ∧ exec (.scanTick lines readback) s = .next (endHappening u) := by
  obtain ⟨z, hz, hx⟩ := exec_countedTop h ht
  have hm : z.mc.mode = .running := (congrArg ModeUnit.mode hz.mc).trans h.running
  have hv := visited_stepClaims (w := (begin z).map countTop) (sound_countTop hz.sound) hm
  have hl : ((begin z).map countTop).st.waitingSources = s.waitingSources := congrArg (List.map PendEntry.source) hz.waiting
  rw [hl] at hv
  exact ⟨z, _, _, hz, hv, watchdogLeaves _, hx⟩

/-- The entries whose claim deadline the tick ends, in the order of the list (R128). -/
def State.dueEntries (s : State) : List PendEntry :=
  s.arb.waiting.filter fun p => s.eligible p.source && p.deadline.due

theorem claimDue_of_mem {s : State} (h : s.Sound) {p : PendEntry} (hp : p ∈ s.arb.waiting) :
    s.claimDue p.source = (s.eligible p.source && p.deadline.due) := by
  rw [State.claimDue, claimDeadlineOf_of_unique hp (h.unique hp)]

theorem filter_claimDue {s : State} (h : s.Sound) :
    s.waitingSources.filter s.claimDue = s.dueEntries.map (·.source) := by
  rw [State.waitingSources, List.filter_map, State.dueEntries]
  exact congrArg (List.map _) (List.filter_congr fun p hp => claimDue_of_mem h hp)

theorem lastDetail_map (l : List PendEntry) :
    lastDetail (l.map (·.source)) = match l.getLast? with | some p => (sourceBits p.source).zeroExtend 16 | none => 0 := by
  rw [lastDetail, List.getLast?_map]
  cases l.getLast? <;> rfl

/-- A step that changes nothing that eligibility and the claim deadlines are read from. -/
theorem countTop_claims (s z : State) (h : Ticked s z) :
    (countTop z).waitingSources = s.waitingSources ∧ (∀ i, (countTop z).eligible i = s.eligible i)
    ∧ ∀ i, (countTop z).claimDue i = s.claimDue i := by
  have he (i : SourceId) : (countTop z).eligible i = s.eligible i :=
    eligible_congr (h.frame.trans (tickFrame_countTop z)) (by
      show z.srcs.mask.getLsbD i.val = s.srcs.mask.getLsbD i.val
      rw [h.srcs])
  refine ⟨congrArg (List.map PendEntry.source) h.waiting, he, fun i => ?_⟩
  have hd : (countTop z).claimDeadlineOf i = s.claimDeadlineOf i := by
    unfold State.claimDeadlineOf
    rw [show (countTop z).arb.waiting = s.arb.waiting from h.waiting]
  rw [State.claimDue, State.claimDue, he, hd]

/-- The expiry of a source that applies its set at its deadline: its set bound, with the record (R129, R141). -/
theorem applied_expiredClaim {s : State} {i : SourceId} (h : (s.src i).reactionSet ≠ 0) :
    (expiredClaim i s).applied i = (bindSet (setOf (s.src i).reactionSet.toNat) i (expiredClaim i s)).wrote .reactApply
      (some i) ((s.src i).reactionSet.zeroExtend 16) := by
  have hset : ((expiredClaim i s).src i).reactionSet = (s.src i).reactionSet := by
    rw [src_expiredClaim, if_pos rfl]
    rfl
  rw [State.applied, hset, if_neg h]

/-- The channels that a set freezes are frozen once it is bound, at the levels that they were driven to (R141, R142). -/
theorem frozen_bindSet {s : State} {k : SetId} (i : SourceId) {c : Channel} (hf : (s.set k).action c = .freeze) :
    (bindSet k i s).act.frozen.getLsbD c.val = true
    ∧ (bindSet k i s).act.frozenLevel.getLsbD c.val =
      if s.act.frozen.getLsbD c.val then s.act.frozenLevel.getLsbD c.val else s.act.effective.getLsbD c.val := by
  have hfreeze := (getLsbD_freezes _ c).mpr hf
  rw [bindSet_eq]
  dsimp only
  simp only [BitVec.getLsbD_or, BitVec.getLsbD_and, BitVec.getLsbD_not, hfreeze, c.isLt]
  cases s.act.frozen.getLsbD c.val <;> simp

/-- Settles O53. -/
theorem claimExpiryMarksAndRaisesStale : Obligations.ClaimExpiryMarksAndRaisesStale := by
  unfold Obligations.ClaimExpiryMarksAndRaisesStale
  dsimp only
  rintro s i n e hm he rfl huniq hn hel hi
  have hdeadline : s.claimDeadlineOf e.source = .runningDown n := (claimDeadlineOf_of_unique he huniq).trans hn
  have run := exec_claimDeadlineExpiry hm hel (by rw [hdeadline]; rfl)
  have hlive : ((begin s).map (expiredClaim e.source)).live = true := (live_iff _).mpr hm
  have hx : ((begin s).map (expiredClaim e.source)).st.src staleId = s.src staleId :=
    (src_expiredClaim _ _ _).trans (if_neg hi)
  refine ⟨fun hw => ?_, fun hq hleg => ?_, fun hw hset hc hs => ?_, fun lines readback h h1 ht => ?_⟩
  · rw [expiredClaimWork_never (w := begin s) hw] at run
    refine ⟨fun hs => ?_, fun hs => ?_, fun hs hr => ?_, fun hs hr => ?_⟩
    · rw [run, occur_disarmed (by rw [hx]; exact hs)]
      rfl
    · rw [run, occur_counted hlive (by rw [hx]; exact .inl hs), finish_of_nil (by rfl), map_st, countOccurrence, hx,
        satInc_eq]
      rfl
    · rw [run, occur_repeats hlive _ (by rw [hx]; exact hs) (by rw [hx]; exact hr), finish_of_nil (by rfl), map_st,
        countRepeat, hx, satInc_eq]
      rfl
    · rw [run, occur_discards hlive _ (by rw [hx]; exact hs) (by rw [hx]; exact hr)]
      rfl
  · have hmem : e.source ∈ (begin s).st.waitingSources := List.mem_map.mpr ⟨e, he, rfl⟩
    have hexp := claimExpired (w := begin s) hleg.sound hmem
    have hu := claimExpiry_quiet (w := begin s) hleg.sound ((live_iff _).mpr hm) hq hi
    have hunits := expiredClaimWork_eq e.source (begin s)
    have hwork := expiredClaimWork_st e.source (begin s)
    have hblock : (expiredClaimWork e.source (begin s)).st.src staleId = s.src staleId := by
      rw [hunits]
      exact hx
    have hlatch := hu.source
    rw [latchedSource, hblock, hunits] at hlatch
    have hsvc : (expiredClaimWork e.source (begin s)).st.svc = s.svc := by rw [hunits]; rfl
    have hmc : (expiredClaimWork e.source (begin s)).st.mc = s.mc := by rw [hunits]; rfl
    have hsets := hu.sets (by rw [hblock, (hleg.sound.stale hq).2.1]; decide)
    replace run : exec (.claimDeadlineExpiry (sourceBits e.source)) s =
      .next (endHappening (expireClaim e.source (begin s)).st) := run
    have husvc := hu.svc
    have humc := hu.mc
    have hjoined := hu.joined
    generalize (expireClaim e.source (begin s)).st = u at hexp hlatch hsets run husvc humc hjoined
    refine ⟨_, run, hexp.waits.marked rfl, hexp.waits.state.trans (hleg.sound.pending_of_mem hmem).symm, ?_, ?_, ?_, ?_, ?_,
      List.mem_map.mpr ⟨_, hjoined, rfl⟩, husvc.trans hsvc, humc.trans hmc, hexp.bound, fun hw => ?_⟩
    · have := hexp.entry e he
      rwa [if_pos rfl] at this
    · rw [src_endHappening, hlatch]
    · rw [src_endHappening, hlatch]
    · rw [src_endHappening, hlatch]
    · rw [src_endHappening, hlatch]
      rfl
    · rw [endHappening_act_sets, hsets, hwork, begin_st, if_neg hw]
      rfl
  · have hcalm := expiredClaimWork_calm (w := begin s) hw hc
    rw [hcalm] at run
    have hblock : ((expiredClaim e.source s).applied e.source).src staleId = s.src staleId := by
      rw [applied_eq]
      exact hx
    rw [occur_disarmed (by rw [map_st]; exact (congrArg Source.state hblock).trans hs)] at run
    have hself : ((expiredClaim e.source s).src e.source).reactionSet = (s.src e.source).reactionSet := by
      rw [src_expiredClaim, if_pos rfl]
      rfl
    have hbinds := applied_binds (i := e.source) (s := expiredClaim e.source s) (by rw [hself]; exact hset)
    rw [hself] at hbinds
    have hunits := applied_eq e.source (expiredClaim e.source s)
    have happly := applied_expiredClaim hset
    replace run : exec (.claimDeadlineExpiry (sourceBits e.source)) s =
      .next (endHappening ((expiredClaim e.source s).applied e.source)) := run
    refine ⟨_, run, hbinds, by rw [endHappening_srcs, hunits]; rfl, by rw [endHappening_arb_waiting, hunits]; rfl, ?_,
      fun c hf => ?_⟩
    · rw [endHappening_jn, happly]
      have hself : (expiredClaim e.source s).src e.source = { s.src e.source with expired := true } :=
        (src_expiredClaim _ _ _).trans (if_pos rfl)
      refine jn_wrote_congr (s := s) _ _ _ rfl ?_ ?_ rfl
      · show (_ || _ && (_ || ((expiredClaim e.source s).src e.source).journals)) = _
        rw [hself]
        rfl
      · show ({ w0 := kindCode .reactApply ++ (_ ++ ((expiredClaim e.source s).src e.source).classBits) ++ _ ++ 0#3
                w1 := _, w2 := _, w3 := _ } : Words4) = _
        rw [hself]
        rfl
    · have hact : ((expiredClaim e.source s).applied e.source).act =
          (bindSet (setOf (s.src e.source).reactionSet.toNat) e.source (expiredClaim e.source s)).act := by
        rw [happly, wrote_eq]
        rfl
      rw [endHappening_act_frozen, endHappening_act_frozenLevel, hact]
      exact frozen_bindSet (s := expiredClaim e.source s) e.source hf
  · subst h1
    have hsound := h.legal.sound
    obtain ⟨z, v, u, hz, hv, hu, hx⟩ := exec_claimsTick h ht
    obtain ⟨hsources, heligible, hclaim⟩ := countTop_claims s z hz
    have hbsrc (i : SourceId) : (countTop z).src i = s.src i := hz.src i
    have hwaiting : (countTop z).arb.waiting = s.arb.waiting := hz.waiting
    have hfilter : s.waitingSources.filter (countTop z).claimDue = s.dueEntries.map (·.source) := by
      rw [← filter_claimDue hsound]
      exact List.filter_congr fun i _ => hclaim i
    have hstale := hv.stale
    have hmem {p : PendEntry} (hp : p ∈ s.arb.waiting) : p.source ∈ s.waitingSources := List.mem_map.mpr ⟨p, hp, rfl⟩
    have hwaits {p : PendEntry} (hp : p ∈ s.arb.waiting) :=
      hu.waits _ _ _ (hsound.ne_compound_of_mem (hmem hp)) (hv.waits _ (hsources ▸ hmem hp))
    have hdue : s.dueEntries ≠ [] := List.ne_nil_of_mem (List.mem_filter.mpr ⟨he, by rw [hel, hn]; rfl⟩)
    have hne : s.dueEntries.map (·.source) ≠ [] := fun g => hdue (List.map_eq_nil_iff.mp g)
    have hlen : (s.dueEntries.map (·.source)).length = s.dueEntries.length := List.length_map _
    rw [hfilter] at hstale
    have hsame := hu.stale
    refine ⟨_, hx, ?_, fun p hp => ⟨?_, (hwaits hp).state⟩, fun p hp => ⟨?_, fun hw => ?_⟩, fun hs => ?_, fun hs => ?_,
      fun hs hr => ?_, fun hs hr => ?_, fun hq => ?_⟩
    · rw [endHappening_tc, hu.tc, hv.tc]
      exact hz.tc
    · have := hu.entry _ (hv.entries p (hwaiting ▸ hp))
      rw [if_pos (hmem hp), State.countedEntry, heligible] at this
      exact this
    · obtain ⟨hp, hd⟩ := List.mem_filter.mp hp
      have hmark : ((s.waitingSources.contains p.source) && (countTop z).claimDue p.source) = true := by
        rw [hclaim, claimDue_of_mem hsound hp, hd, List.contains_iff_mem.mpr (hmem hp)]
        rfl
      exact (hwaits hp).marked hmark
    · obtain ⟨hp, hd⟩ := List.mem_filter.mp hp
      have hb := hv.bound p.source (hmem hp) ((hclaim _).trans ((claimDue_of_mem hsound hp).trans hd))
      rw [hbsrc] at hb
      exact hu.bound _ _ (hb hw)
    · rw [src_endHappening, hsame, hstale.disarmed (by rw [hbsrc]; exact hs), hbsrc]
    · obtain ⟨-, hcount, hdetail⟩ := hstale.pending (by rw [hbsrc]; exact hs)
      rw [src_endHappening, hsame, hcount, hdetail hne, hbsrc, hlen, lastDetail_map]
      exact ⟨rfl, rfl⟩
    · rw [src_endHappening, hsame, hstale.repeated (by rw [hbsrc]; exact hs) (by rw [hbsrc]; exact hr), if_neg hne,
        hbsrc, hlen, lastDetail_map]
      rfl
    · rw [src_endHappening, hsame, hstale.dropped (by rw [hbsrc]; exact hs) (by rw [hbsrc]; exact hr), hbsrc]
    · obtain ⟨hstate, hdetail, hcount, hlatch, hentry⟩ := hstale.latched (by rw [hbsrc]; exact hq) hne
      rw [src_endHappening, hsame, hstate, hdetail, hcount, hlatch, hlen, lastDetail_map]
      refine ⟨rfl, rfl, ?_, ?_, hu.entry _ hentry⟩
      · have hle : s.dueEntries.length ≤ 32 := by
          have := (hsound.nodup).length_le_card
          rw [State.waitingSources, List.length_map, Fintype.card_fin] at this
          exact (List.length_filter_le _ _).trans this
        rw [Nat.min_eq_right (by omega)]
        rfl
      · rw [show (countTop z).arb.nextPosition = s.arb.nextPosition from congrArg Arbiter.nextPosition hz.arb,
          show (countTop z).tc.count = s.tc.count + 1 from hz.tc]

end Sys2Proof.Machine
end

section
/-! PROOFS. A tick in Running whose deadlines only count, and the readback comparison that it makes (O50). -/

namespace Sys2Proof.Machine

-- one proof after another: each thread that elaborates costs the check a GiB of its memory limit
set_option Elab.async false

/-! ## Counting the deadlines -/

/-- Step 6 where no entry that it visits expires: the entries are counted in one pass (R93, R128). -/
theorem countClaims_append (l : List SourceId) (i : SourceId) (hn : i ∉ l) (s : State) :
    countClaims [i] (countClaims l s) = countClaims (l ++ [i]) s := by
  have hlist : (s.arb.waiting.map fun p => if p.source ∈ l then s.countedEntry p else p).map
      (fun p => if p.source ∈ [i] then (countClaims l s).countedEntry p else p) =
      s.arb.waiting.map fun p => if p.source ∈ l ++ [i] then s.countedEntry p else p := by
    rw [List.map_map]
    refine List.map_congr_left fun p _ => ?_
    have hk : (countClaims l s).countedEntry p = s.countedEntry p := rfl
    by_cases hl : p.source ∈ l
    · have hi : (s.countedEntry p).source ∉ [i] := fun g => hn (List.mem_singleton.mp g ▸ hl)
      simp only [Function.comp, if_pos hl, if_neg hi]
      rw [if_pos (List.mem_append_left _ hl)]
    · simp only [Function.comp, if_neg hl, hk]
      refine if_congr ?_ rfl rfl
      simp [hl]
  show { s with arb := { s.arb with waiting := List.map _ (List.map _ _) } } = _
  rw [hlist]
  rfl

theorem claimDue_countClaims {l : List SourceId} {i : SourceId} (hn : i ∉ l) (s : State) :
    (countClaims l s).claimDue i = s.claimDue i := by
  have hsource (p : PendEntry) : (if p.source ∈ l then s.countedEntry p else p).source = p.source := by split <;> rfl
  have hfind : (countClaims l s).arb.waiting.find? (·.source == i) =
      (s.arb.waiting.find? (·.source == i)).map fun p => if p.source ∈ l then s.countedEntry p else p := by
    have hp : ((fun p : PendEntry => p.source == i) ∘ fun p => if p.source ∈ l then s.countedEntry p else p) =
        (·.source == i) := funext fun p => by rw [Function.comp, hsource]
    show (s.arb.waiting.map _).find? _ = _
    rw [List.find?_map, hp]
  have hd : (countClaims l s).claimDeadlineOf i = s.claimDeadlineOf i := by
    rw [State.claimDeadlineOf, State.claimDeadlineOf, hfind]
    cases he : s.arb.waiting.find? (·.source == i) with
    | none => rfl
    | some e =>
      have hi : e.source = i := by simpa using List.find?_some he
      rw [Option.map_some, if_neg (by rw [hi]; exact hn)]
  rw [State.claimDue, State.claimDue, hd]
  rfl

theorem foldl_visitEntry_counts {w : Work} (hw : w.st.Sound) (hl : w.live = true) {l : List SourceId} (hn : l.Nodup)
    (hd : ∀ i ∈ l, w.st.claimDue i = false) : l.foldl visitEntry w = w.map (countClaims l) := by
  induction l using List.reverseRecOn with
  | nil =>
    have : (w.st.arb.waiting.map fun p => if p.source ∈ ([] : List SourceId) then w.st.countedEntry p else p) =
        w.st.arb.waiting := (List.map_congr_left fun p _ => if_neg (List.not_mem_nil)).trans (List.map_id _)
    rw [List.foldl_nil]
    unfold Work.map countClaims
    rw [this]
  | append_singleton l i ih =>
    rw [List.nodup_append] at hn
    obtain ⟨hnl, -, hni⟩ := hn
    have hil : i ∉ l := fun g => hni i g i (by simp) rfl
    have hfold := ih hnl fun j hj => hd j (List.mem_append_left _ hj)
    have hsound : (l.foldl visitEntry w).st.Sound :=
      foldl_keeps (fun v j _ h => (sound_tick.rest 0).visitEntry h trivial) hw
    rw [List.foldl_append, List.foldl_cons, List.foldl_nil]
    rw [hfold] at hsound ⊢
    rw [visitEntry_counts hsound hl ((claimDue_countClaims hil w.st).trans (hd i (by simp)))]
    show ({ w with st := countClaims [i] (countClaims l w.st) } : Work) = _
    rw [countClaims_append l i hil]
    rfl

/-- Step 6 where no entry that stood in the list when the tick began expires (R93, R128). -/
theorem stepClaims_counts {w : Work} (hw : w.st.Sound) (hl : w.live = true) {atStart : List SourceId}
    (hd : ∀ p ∈ w.st.arb.waiting, p.source ∈ atStart → p.deadline.due = false) :
    stepClaims atStart w = w.map (countClaims atStart) := by
  have hmem (i : SourceId) : i ∈ w.st.waitingSources.filter (fun i => atStart.contains i) ↔
      i ∈ w.st.waitingSources ∧ i ∈ atStart := by
    rw [List.mem_filter, List.contains_iff_mem]
  have hfold := foldl_visitEntry_counts hw hl (hw.nodup.filter fun i => atStart.contains i) fun i hi => by
    obtain ⟨hw', ha⟩ := (hmem i).mp hi
    obtain ⟨p, hp, rfl⟩ := List.mem_map.mp hw'
    rw [claimDue_of_mem hw hp, hd p hp ha, Bool.and_false]
  refine hfold.trans (congrArg (fun a => ({ w with st := { w.st with arb := { w.st.arb with waiting := a } } } : Work)) ?_)
  refine List.map_congr_left fun p hp => if_congr ?_ rfl rfl
  rw [hmem]
  exact and_iff_right (List.mem_map.mpr ⟨p, hp, rfl⟩)

/-- Step 5 where the top's deadline does not end (R132). -/
def countService (depth : Nat) (s : State) : State := if s.svc.stack.length = depth then countTop s else s

theorem map_eq_of_st {w : Work} {f : State → State} {t : State} (h : f w.st = t) : w.map f = { w with st := t } := by
  rw [Work.map, h]

/-- Step 7 where the watchdog does not end (R137). -/
def countWatchdog (s : State) : State := { s with dl := { s.dl with watchdog := s.dl.watchdog.map (· - 1) } }

/-- The deadlines after a tick at which none of them ends: the top's, where the stack is as deep as when the tick began,
those of the entries that stood in the list then, and the watchdog (R93, R128, R132, R137). -/
def countLate (depth : Nat) (atStart : List SourceId) (s : State) : State :=
  countWatchdog (countClaims atStart (countService depth s))

theorem stepService_only_counts {w : Work} (depth : Nat)
    (h : ∀ top rest, w.st.svc.stack = top :: rest → w.st.svc.stack.length = depth → top.deadline.due = false) :
    stepService depth w = w.map (countService depth) := by
  by_cases hd : w.st.svc.stack.length = depth
  · rw [map_eq_of_st (f := countService depth) (if_pos hd), ← hd]
    exact stepService_counts fun top rest hs => h top rest hs hd
  · rw [map_eq_of_st (f := countService depth) (if_neg hd)]
    unfold stepService
    split
    · rfl
    · exact if_pos hd

theorem stepWatchdog_counts {w : Work} (h0 : w.st.dl.watchdog ≠ some 0) (h1 : w.st.dl.watchdog ≠ some 1) :
    stepWatchdog w = w.map countWatchdog := by
  unfold stepWatchdog
  split
  · next hn =>
    refine (map_eq_of_st (f := countWatchdog) (t := w.st) ?_).symm
    rw [countWatchdog, hn]
    exact congrArg (fun o => ({ w.st with dl := { watchdog := o } } : State)) hn.symm
  · next n hn =>
    have hn1 : ¬n ≤ 1 := by
      intro g
      interval_cases n
      · exact h0 hn
      · exact h1 hn
    rw [if_neg hn1]
    refine (map_eq_of_st (f := countWatchdog) ?_).symm
    rw [countWatchdog, hn]
    rfl

/-- Steps 5 to 7 where no deadline ends (R93). -/
theorem lateSteps_count {w : Work} (hw : w.st.Sound) (hl : w.live = true) {depth : Nat} {atStart : List SourceId}
    (ht : ∀ top rest, w.st.svc.stack = top :: rest → w.st.svc.stack.length = depth → top.deadline.due = false)
    (hd : ∀ p ∈ w.st.arb.waiting, p.source ∈ atStart → p.deadline.due = false)
    (h0 : w.st.dl.watchdog ≠ some 0) (h1 : w.st.dl.watchdog ≠ some 1) :
    lateSteps depth atStart w = w.map (countLate depth atStart) := by
  have hservice := stepService_only_counts depth ht
  have hsound : (w.map (countService depth)).st.Sound := by
    rw [map_st, countService]
    split
    · exact sound_countTop hw
    · exact hw
  have harb : (w.map (countService depth)).st.arb = w.st.arb := by
    rw [map_st, countService]
    split <;> rfl
  have hdl : (w.map (countService depth)).st.dl = w.st.dl := by
    rw [map_st, countService]
    split <;> rfl
  have hlive : (w.map (countService depth)).live = true := by
    rw [live_iff, map_st, countService]
    refine Eq.trans ?_ ((live_iff w).mp hl)
    split <;> rfl
  have hcompose : w.map (countLate depth atStart) = ((w.map (countService depth)).map (countClaims atStart)).map
    countWatchdog := rfl
  rw [lateSteps, hservice, hcompose]
  generalize w.map (countService depth) = v at hsound harb hdl hlive ⊢
  rw [ifLive_of_live hlive, stepClaims_counts hsound hlive (by rw [harb]; exact hd), ifLive_of_live,
    stepWatchdog_counts]
  · show v.st.dl.watchdog ≠ some 0
    rw [hdl]
    exact h0
  · show v.st.dl.watchdog ≠ some 1
    rw [hdl]
    exact h1
  · exact hlive

end Sys2Proof.Machine
end

section
/-! PROOFS. The readback comparison of a tick in Running and its occurrence of MISMATCH (O50). -/

namespace Sys2Proof.Machine

-- one proof after another: each thread that elaborates costs the check a GiB of its memory limit
set_option Elab.async false

/-! ## What occurrences can add to the list -/

/-- An entry of a source that was not Pending, with its full claim deadline (R82, R127). -/
def State.newEntry (b : State) (p : PendEntry) : Prop :=
  (b.src p.source).state ≠ .pending ∧ p.deadline = (b.src p.source).freshClaimDeadline

/-- What occurrences make of the list: every source that was Pending still is, with its mask bit, the entries stand, and
those that join have their full claim deadline (R82, R86, R127). -/
structure ListGrows (b t : State) : Prop where
  frame   : TickFrame b t
  sound   : t.Sound
  waits   : ∀ i ∈ b.waitingSources, t.Waits i (b.masked i) false
  stays   : ∀ p ∈ b.arb.waiting, p ∈ t.arb.waiting
  joins   : ∀ p ∈ t.arb.waiting, p ∈ b.arb.waiting ∨ b.newEntry p

/-- The entries after occurrences (R86). -/
theorem ListGrows.mem_iff {b t : State} (h : ListGrows b t) (hb : b.Sound) (p : PendEntry) :
    p ∈ t.arb.waiting ↔ p ∈ b.arb.waiting ∨ ((b.src p.source).state ≠ .pending ∧ (t.src p.source).state = .pending
      ∧ p.deadline = (b.src p.source).freshClaimDeadline) := by
  constructor
  · intro hp
    refine (h.joins p hp).imp id fun ⟨hn, hd⟩ => ⟨hn, h.sound.pending_of_mem (List.mem_map.mpr ⟨p, hp, rfl⟩), hd⟩
  · rintro (hp | ⟨hn, ht, hd⟩)
    · exact h.stays p hp
    · obtain ⟨q, hq, hs⟩ := List.mem_map.mp ((h.sound.valid.events.pending p.source).mp ht)
      rcases h.joins q hq with hold | ⟨-, hfresh⟩
      · exact absurd (hs ▸ hb.pending_of_mem (List.mem_map.mpr ⟨q, hold, rfl⟩)) hn
      · obtain ⟨i, d⟩ := p
        obtain ⟨j, e⟩ := q
        dsimp only at hs hfresh hd
        subst hs hfresh hd
        exact hq

theorem freshClaimDeadline_congr {x y : Source} (h : y.w2 = x.w2) : y.freshClaimDeadline = x.freshClaimDeadline := by
  rw [Source.freshClaimDeadline, Source.freshClaimDeadline, Source.claimDeadline, Source.claimDeadline, h]

/-- The condition of `ListGrows` on the entries that join, kept by occurrences. -/
theorem joins_engine {b : State} (hb : b.Sound) :
    EngineKeepsOn (· ≠ compoundId) (fun t => TickFrame b t ∧ ∀ i ∈ b.waitingSources, t.Waits i (b.masked i) false)
      fun t => ∀ p ∈ t.arb.waiting, p ∈ b.arb.waiting ∨ b.newEntry p where
  derived := by decide
  journal := fun _ _ _ _ _ h => h
  bind := fun _ _ _ _ h => h
  lock := fun _ _ _ _ _ _ _ _ _ _ h => h
  latch := fun s i d _ _ hq _ hs h => by
    intro p hp
    rw [maskedLatch_eq, latchState_eq] at hp
    rcases (mem_joinState _ _ _ _ _ _).mp hp with rfl | hp
    · refine .inr ⟨fun hpend => ?_, freshClaimDeadline_congr (hs.1.words i).2.2⟩
      have := (hs.2 i ((hb.valid.events.pending i).mp hpend)).state
      rw [hq] at this
      cases this
    · exact h p hp
  push := fun _ _ _ _ _ _ _ _ _ _ _ _ h => h
  full := fun _ _ _ _ _ _ _ _ _ _ _ h => h
  count := fun _ _ _ _ _ _ _ h => h
  again := fun _ _ _ _ _ _ _ h => h

theorem EngineKeepsOn.and {A : SourceId → Prop} {S P Q : State → Prop} (h : EngineKeepsOn A S P)
    (g : EngineKeepsOn A S Q) : EngineKeepsOn A S fun t => P t ∧ Q t where
  derived := h.derived
  journal := fun s u lost hu ha hs => ⟨h.journal s u lost hu ha hs.1, g.journal s u lost hu ha hs.2⟩
  bind := fun s k i ha hs => ⟨h.bind s k i ha hs.1, g.bind s k i ha hs.2⟩
  lock := fun s i c a b hi hm hq hd ha hs => ⟨h.lock s i c a b hi hm hq hd ha hs.1, g.lock s i c a b hi hm hq hd ha hs.2⟩
  latch := fun s i d hi hm hq hd ha hs => ⟨h.latch s i d hi hm hq hd ha hs.1, g.latch s i d hi hm hq hd ha hs.2⟩
  push := fun s i d t r hi hm hq hd ht hl ha hs =>
    ⟨h.push s i d t r hi hm hq hd ht hl ha hs.1, g.push s i d t r hi hm hq hd ht hl ha hs.2⟩
  full := fun s i d a b hi hm hq hd hl ha hs =>
    ⟨h.full s i d a b hi hm hq hd hl ha hs.1, g.full s i d a b hi hm hq hd hl ha hs.2⟩
  count := fun s i d hi hm hc ha hs => ⟨h.count s i d hi hm hc ha hs.1, g.count s i d hi hm hc ha hs.2⟩
  again := fun s i d hi hm hc ha hs => ⟨h.again s i d hi hm hc ha hs.1, g.again s i d hi hm hc ha hs.2⟩

theorem EngineKeepsOn.all {ι : Type} {A : SourceId → Prop} {S : State → Prop} {C : ι → Prop} {P : ι → State → Prop}
    (hj : A journalId) (h : ∀ x, C x → EngineKeepsOn A S (P x)) : EngineKeepsOn A S fun t => ∀ x, C x → P x t where
  derived := hj
  journal := fun s u lost hu ha hs x hx => (h x hx).journal s u lost hu ha (hs x hx)
  bind := fun s k i ha hs x hx => (h x hx).bind s k i ha (hs x hx)
  lock := fun s i c a b hi hm hq hd ha hs x hx => (h x hx).lock s i c a b hi hm hq hd ha (hs x hx)
  latch := fun s i d hi hm hq hd ha hs x hx => (h x hx).latch s i d hi hm hq hd ha (hs x hx)
  push := fun s i d t r hi hm hq hd ht hl ha hs x hx => (h x hx).push s i d t r hi hm hq hd ht hl ha (hs x hx)
  full := fun s i d a b hi hm hq hd hl ha hs x hx => (h x hx).full s i d a b hi hm hq hd hl ha (hs x hx)
  count := fun s i d hi hm hc ha hs x hx => (h x hx).count s i d hi hm hc ha (hs x hx)
  again := fun s i d hi hm hc ha hs x hx => (h x hx).again s i d hi hm hc ha (hs x hx)

/-- An occurrence grows the list. -/
theorem listGrows_occurAll {w : Work} (hw : w.st.Sound) {i : SourceId} (hi : i ≠ compoundId) (d : Word) :
    ListGrows w.st (occurAll i d w).st := by
  have hframe := tickFrame_tick w.st
  have hwaits : EngineKeepsOn (· ≠ compoundId) Always
      fun t => ∀ j, j ∈ w.st.waitingSources → t.Waits j (w.st.masked j) false :=
    .all (by decide) fun j hj => waits_engine (hw.ne_compound_of_mem hj) _ false
  have hstart : TickFrame w.st w.st ∧ ∀ j, j ∈ w.st.waitingSources → w.st.Waits j (w.st.masked j) false :=
    ⟨.refl _, fun j hj => ⟨hw.pending_of_mem hj, rfl, nofun⟩⟩
  obtain ⟨⟨hf, hk⟩, hjoins⟩ := ((hframe.engine.on.and hwaits).given (joins_engine hw)).occurAll (w := w) (i := i)
    ⟨hstart, fun _ hp => .inl hp⟩ hi d
  exact ⟨hf, sound_tick.engine.occurAll hw hi d, hk, fun p hp => (entry_engine p).occurAll hp hi d, hjoins⟩

/-! ## The occurrence of MISMATCH -/

/-- What MISMATCH's occurrence makes of a state (R84, R85, R114 to R118, R150). -/
structure Mismatched (c : State) (d : Word) (v : State) : Prop where
  grows    : ListGrows c v
  frame    : EngineFrame c v
  disarmed : (c.src mismatchId).state = .disarmed → v = c
  counted  : (c.src mismatchId).state = .pending ∨ (c.src mismatchId).state = .absorbed →
    v = c.setSrc mismatchId { c.src mismatchId with count := satInc (c.src mismatchId).count, detail := d }
  repeated : (c.src mismatchId).state = .serving → (c.src mismatchId).repeats = true →
    v = c.setSrc mismatchId { c.src mismatchId with repeatCount := satInc (c.src mismatchId).repeatCount, detail := d }
  dropped  : (c.src mismatchId).state = .serving → (c.src mismatchId).repeats = false → v = c
  latched  : (c.src mismatchId).state = .quiet → c.decision mismatchId = .normal → LatchedFrom c mismatchId d v
  absorbed : (c.src mismatchId).state = .quiet → c.decision mismatchId = .compound →
    v.src mismatchId = { c.src mismatchId with
      state := .absorbed, count := 1, detail := d
      latch := some { position := c.arb.nextPosition, tick := c.tc.count } }
  pushed   : (c.src mismatchId).state = .quiet → c.decision mismatchId = .compound → c.svc.stack.length < 4 →
    v.mc = c.mc ∧ v.svc = { c.svc with
      stack := { source := compoundId, announced := false, deadline := (c.src compoundId).freshServiceDeadline }
        :: c.svc.stack
      comprec0 := (c.stackField 0).zeroExtend 8 ++ 29#8
      comprec1 := c.tc.count.extractLsb' 0 16 }
  overfull : (c.src mismatchId).state = .quiet → c.decision mismatchId = .compound → ¬c.svc.stack.length < 4 →
    v.mc.mode = .lockdown ∧ v.svc = c.svc ∧ v.mc.lockrec = 4#4 ++ 0#2 ++ 29#5 ++ c.stackField 0
  locked   : ∀ cause, (c.src mismatchId).state = .quiet → c.decision mismatchId = .lockdown cause →
    LockedFrom c cause mismatchId (c.stackField 0) v

/-- A decision to compound is made over a stack with a top (R114). -/
theorem stack_of_compound {s : State} {i : SourceId} (h : s.decision i = .compound) :
    ∃ top rest, s.svc.stack = top :: rest := by
  cases hs : s.svc.stack with
  | nil =>
    have hsev : s.severity = 0 := by simp [State.severity, hs]
    rw [State.decision, hsev] at h
    cases hc : (s.src i).cls <;> rw [hc] at h <;> cases h
  | cons top rest => exact ⟨top, rest, rfl⟩

theorem stackField_top {s : State} {top : StackEntry} {rest : List StackEntry} (h : s.svc.stack = top :: rest) :
    s.stackField 0 = sourceBits top.source := by
  rw [State.stackField, h]
  rfl

theorem mismatched {w : Work} (hw : w.st.Sound) (hl : w.live = true) (hn : w.derived = []) (d : Word) :
    Mismatched w.st d (occurAll mismatchId d w).st where
  grows := listGrows_occurAll hw (by decide) d
  frame := frame_occurAll _ _ _
  disarmed := fun h => by rw [occurAll, occur_disarmed h, drain_of_nil hn]
  counted := fun h => by
    rw [occurAll, occur_counted hl h, drain_of_nil (by exact hn)]
    rfl
  repeated := fun h hr => by
    rw [occurAll, occur_repeats hl d h hr, drain_of_nil (by exact hn)]
    rfl
  dropped := fun h hr => by rw [occurAll, occur_discards hl d h hr, drain_of_nil hn]
  latched := fun hq hd => occurAll_latched hw hl hq (by decide) (by decide) hd d
  absorbed := fun hq hd => by
    obtain ⟨top, rest, hs⟩ := stack_of_compound hd
    by_cases hlen : w.st.svc.stack.length < Config.stackLimit
    · exact (occurAll_escalated hw hl hq (by decide) (by decide) hd hs hlen d).source
    · exact (occurAll_overfull hl hq hd hs hlen d).source
  pushed := fun hq hd hlen => by
    obtain ⟨top, rest, hs⟩ := stack_of_compound hd
    have hu := occurAll_escalated hw hl hq (by decide) (by decide) hd hs hlen d
    rw [stackField_top hs]
    exact ⟨hu.mc, hu.svc⟩
  overfull := fun hq hd hlen => by
    obtain ⟨top, rest, hs⟩ := stack_of_compound hd
    have hu := occurAll_overfull hl hq hd hs hlen d
    rw [stackField_top hs]
    exact ⟨hu.mode, hu.svc, hu.lockrec⟩
  locked := fun cause hq hd => occurAll_locked hw hl hq hd d

/-- The stack after MISMATCH's occurrence: as it was, or with a COMPOUND entry on top (R116, R117). -/
theorem Mismatched.stack {c v : State} {d : Word} (h : Mismatched c d v) :
    v.svc.stack = c.svc.stack ∨ v.svc.stack =
      { source := compoundId, announced := false, deadline := (c.src compoundId).freshServiceDeadline }
        :: c.svc.stack := by
  cases hs : (c.src mismatchId).state with
  | disarmed => rw [h.disarmed hs]; exact .inl rfl
  | pending => rw [h.counted (.inl hs)]; exact .inl rfl
  | absorbed => rw [h.counted (.inr hs)]; exact .inl rfl
  | serving =>
    cases hr : (c.src mismatchId).repeats with
    | true => rw [h.repeated hs hr]; exact .inl rfl
    | false => rw [h.dropped hs hr]; exact .inl rfl
  | quiet =>
    cases hd : c.decision mismatchId with
    | normal => exact .inl (congrArg ServiceUnit.stack (h.latched hs hd).svc)
    | lockdown cause => exact .inl (congrArg ServiceUnit.stack (h.locked cause hs hd).svc)
    | compound =>
      by_cases hlen : c.svc.stack.length < 4
      · exact .inr (congrArg ServiceUnit.stack (h.pushed hs hd hlen).2)
      · exact .inl (congrArg ServiceUnit.stack (h.overfull hs hd hlen).2.1)

end Sys2Proof.Machine
end

section
/-! PROOFS. A tick in Running at which no line's source has an occurrence and nothing expires (O50). -/

namespace Sys2Proof.Machine

-- one proof after another: each thread that elaborates costs the check a GiB of its memory limit
set_option Elab.async false

/-- The state after the readback comparison of a tick at which no line's source has an occurrence. -/
structure Compared (s c : State) : Prop where
  units : c = { s with
    tc := { s.tc with count := s.tc.count + 1 }
    scan := c.scan
    act := { s.act with
      counters := c.act.counters, mismatchSet := c.act.mismatchSet, mismatchDet := c.act.mismatchDet, moved := 0 }
    link := { s.link with hold := c.link.hold } }
  sound : c.Sound

section
variable {s c : State} (h : Compared s c)
include h

theorem Compared.mc : c.mc = s.mc := by rw [h.units]
theorem Compared.svc : c.svc = s.svc := by rw [h.units]
theorem Compared.arb : c.arb = s.arb := by rw [h.units]
theorem Compared.dl : c.dl = s.dl := by rw [h.units]
theorem Compared.srcs : c.srcs = s.srcs := by rw [h.units]
theorem Compared.tc : c.tc.count = s.tc.count + 1 := by rw [h.units]
theorem Compared.regs : c.regs = s.regs := by rw [h.units]
theorem Compared.jn : c.jn = s.jn := by rw [h.units]
theorem Compared.src (i : SourceId) : c.src i = s.src i := by rw [State.src, h.srcs]; rfl
theorem Compared.masked (i : SourceId) : c.masked i = s.masked i := by rw [State.masked, h.srcs]; rfl
theorem Compared.severity : c.severity = s.severity := severity_congr (by rw [h.svc]) fun i => by rw [h.src]
theorem Compared.waitingSources : c.waitingSources = s.waitingSources := congrArg (List.map PendEntry.source) (by rw [h.arb])

theorem Compared.stackField (k : Nat) : c.stackField k = s.stackField k := stackField_congr (by rw [h.svc]) k

theorem Compared.decision (i : SourceId) : c.decision i = s.decision i := by
  rw [State.decision, State.decision, h.src, h.severity, State.compoundEnable, State.compoundEnable, h.regs]

theorem Compared.eligible (i : SourceId) : c.eligible i = s.eligible i := by
  rw [State.eligible, State.eligible, h.masked, State.threshold, State.threshold, h.regs, State.level, State.level, h.src]

end

theorem compared_compareReadback {s : State} (h : s.Sound) (lines : BitVec 24) (readback : Word) :
    Compared s (compareReadback (sampledTick lines readback s)) := by
  have hsound : (sampledTick lines readback s).Sound :=
    ⟨h.valid.of_units rfl rfl rfl rfl (.inl rfl), h.fields.of_same (.of_units rfl rfl rfl rfl)⟩
  refine ⟨?_, sound_tick.compare _ hsound⟩
  rw [compareReadback_checked]
  rfl

/-- The deadlines of such a tick do not end (R128, R132, R137). -/
structure State.NothingEnds (s : State) : Prop where
  top      : ∀ e rest, s.svc.stack = e :: rest → e.deadline.due = false
  entries  : ∀ e ∈ s.arb.waiting, e.deadline.due = false
  watchdog : s.dl.watchdog ≠ some 0 ∧ s.dl.watchdog ≠ some 1

/-- What step 4 leaves: the comparison, and the occurrence of MISMATCH where channels have joined (R150). -/
structure Checked (c : State) (joined : Word) (v : State) : Prop where
  agrees : joined = 0 → v = c
  joins  : joined ≠ 0 → Mismatched c joined v

theorem Checked.grows {c v : State} {joined : Word} (h : Checked c joined v) (hc : c.Sound) : ListGrows c v := by
  by_cases hj : joined = 0
  · rw [h.agrees hj]
    exact ⟨.refl c, hc, fun i hi => ⟨hc.pending_of_mem hi, rfl, nofun⟩, fun _ hp => hp, fun _ hp => .inl hp⟩
  · exact (h.joins hj).grows

theorem Checked.frame {c v : State} {joined : Word} (h : Checked c joined v) : EngineFrame c v := by
  by_cases hj : joined = 0
  · rw [h.agrees hj]
    exact .refl c
  · exact (h.joins hj).frame

theorem Checked.stack {c v : State} {joined : Word} (h : Checked c joined v) :
    v.svc.stack = c.svc.stack ∨ v.svc.stack =
      { source := compoundId, announced := false, deadline := (c.src compoundId).freshServiceDeadline }
        :: c.svc.stack := by
  by_cases hj : joined = 0
  · rw [h.agrees hj]
    exact .inl rfl
  · exact (h.joins hj).stack

/-- Step 4 of a tick in Running (R147 to R150). -/
theorem checked_stepReadback {y c : State} (hw : (begin y).map compareReadback = begin c) (hc : c.Sound)
    (hm : c.mc.mode = .running) :
    Checked c y.joining (stepReadback (begin y)).st ∧ (stepReadback (begin y)).derived = [] := by
  unfold stepReadback
  rw [hw]
  dsimp only
  rw [begin_st]
  by_cases hj : y.joining = 0
  · rw [if_pos hj]
    exact ⟨⟨fun _ => rfl, fun h => absurd hj h⟩, rfl⟩
  · rw [if_neg hj]
    exact ⟨⟨fun h => absurd h hj, fun _ => mismatched (w := begin c) hc ((live_iff _).mpr hm) rfl _⟩, drain_derived _⟩

/-- Such a tick: the comparison, the occurrence of MISMATCH where channels have joined, and the counts (R93). -/
theorem exec_quietTick {s : State} {lines : BitVec 24} {readback : Word} (hs : s.Sound) (hh : s.rst.held = false)
    (hl : s.rst.intervalLeft = 0) (hm : s.mc.mode = .running) (hp : s.link.phase ≠ .shifting)
    (hsilent : ∀ k : LineId, (sampleInputs lines readback s).lineOccurs (s.changedLines lines) k = false)
    (he : s.NothingEnds) :
    ∃ v, Checked (compareReadback (sampledTick lines readback s)) (sampledTick lines readback s).joining v
      ∧ exec (.scanTick lines readback) s = .next (endHappening
        (if v.mc.mode = .running then countLate s.svc.stack.length s.waitingSources v else v)) := by
  have hc := compared_compareReadback hs lines readback
  have hstep := stepExternal_silent (w := begin (sampledTick lines readback s)) hsilent
  have hwork : (begin (sampledTick lines readback s)).map compareReadback =
      begin (compareReadback (sampledTick lines readback s)) := by
    have hmode : (compareReadback (sampledTick lines readback s)).mc = s.mc := hc.mc
    unfold begin Work.map
    dsimp only
    rw [hmode]
    rfl
  obtain ⟨hv, hnil⟩ := checked_stepReadback hwork hc.sound (by rw [hc.mc]; exact hm)
  have hrun : exec (.scanTick lines readback) s = .next (finish (ifLive stepWatchdog (ifLive (stepClaims s.waitingSources)
      (ifLive (stepService s.svc.stack.length) (stepReadback (begin (sampledTick lines readback s))))))) := by
    rw [exec_scanTick hh hl hp, tickHappening_of_running hm, hstep, restSteps, ifLive_of_live (f := stepReadback)]
    exact (live_iff _).mpr hm
  generalize compareReadback (sampledTick lines readback s) = c at *
  generalize stepReadback (begin (sampledTick lines readback s)) = w at *
  refine ⟨w.st, hv, hrun.trans (congrArg Host.Outcome.next ?_)⟩
  have hgrows := hv.grows hc.sound
  by_cases hlive : w.live = true
  · rw [if_pos ((live_iff w).mp hlive), ifLive_of_live hlive]
    have hcount := lateSteps_count (depth := s.svc.stack.length) (atStart := s.waitingSources) hgrows.sound hlive
      (fun top rest ht hlen => ?_) (fun p hp ha => ?_) ?_ ?_
    · rw [lateSteps] at hcount
      rw [hcount, finish_of_nil (by exact hnil)]
      rfl
    · rcases hv.stack with hst | hst
      · rw [hc.svc] at hst
        exact he.top top rest (hst ▸ ht)
      · rw [hst, List.length_cons, hc.svc] at hlen
        omega
    · rcases hgrows.joins p hp with hold | ⟨hn, -⟩
      · rw [hc.arb] at hold
        exact he.entries p hold
      · rw [hc.src] at hn
        exact absurd (hs.pending_of_mem ha) hn
    · rw [hv.frame.dl, hc.dl]
      exact he.watchdog.1
    · rw [hv.frame.dl, hc.dl]
      exact he.watchdog.2
  · have hdead : w.live = false := Bool.eq_false_iff.mpr hlive
    rw [if_neg (fun g => hlive ((live_iff w).mpr g)), ifLive_of_not_live hdead, ifLive_of_not_live hdead,
      ifLive_of_not_live hdead, finish_of_not_live hdead]

/-! ## What such a tick leaves -/

theorem countLate_eq (depth : Nat) (l : List SourceId) (s : State) :
    countLate depth l s = { s with
      svc := (countService depth s).svc
      arb := { s.arb with waiting := s.arb.waiting.map fun p => if p.source ∈ l then s.countedEntry p else p }
      dl := { s.dl with watchdog := s.dl.watchdog.map (· - 1) } } := by
  unfold countLate countWatchdog countClaims countService
  split <;> rfl

/-- The counts change the deadlines only (R93). -/
theorem late_units {v u : State} {depth : Nat} {l : List SourceId}
    (h : (if v.mc.mode = .running then countLate depth l v else v) = u) :
    u = { v with svc := u.svc, arb := u.arb, dl := u.dl } := by
  subst h
  split
  · rw [countLate_eq]
  · rfl

/-- The counted entries of the list. -/
theorem countedEntry_eq {s c v : State} (hc : Compared s c) (hg : ListGrows c v) {p : PendEntry}
    (hp : p ∈ s.arb.waiting) : v.countedEntry p = s.countedEntry p := by
  have hi : p.source ∈ c.waitingSources := by
    rw [hc.waitingSources]
    exact List.mem_map.mpr ⟨p, hp, rfl⟩
  rw [State.countedEntry, State.countedEntry, eligible_congr hg.frame (hg.waits _ hi).masked, hc.eligible]

/-- The list after the counts, where the entries that joined it keep their full deadline (R93, R127). -/
theorem mem_countLate {s c v : State} (hs : s.Sound) (hc : Compared s c) (hg : ListGrows c v) (p : PendEntry) :
    (p ∈ v.arb.waiting.map fun q => if q.source ∈ s.waitingSources then v.countedEntry q else q) ↔
      p ∈ s.arb.waiting.map s.countedEntry ∨ ((s.src p.source).state ≠ .pending ∧ (v.src p.source).state = .pending
        ∧ p.deadline = (s.src p.source).freshClaimDeadline) := by
  have hmem (q : PendEntry) : q ∈ v.arb.waiting ↔ q ∈ s.arb.waiting ∨ ((s.src q.source).state ≠ .pending
      ∧ (v.src q.source).state = .pending ∧ q.deadline = (s.src q.source).freshClaimDeadline) := by
    rw [hg.mem_iff hc.sound, hc.arb, hc.src]
  have hold {q : PendEntry} (hq : q ∈ s.arb.waiting) : q.source ∈ s.waitingSources := List.mem_map.mpr ⟨q, hq, rfl⟩
  have hnew {q : PendEntry} (hq : (s.src q.source).state ≠ .pending) : q.source ∉ s.waitingSources :=
    fun g => hq (hs.pending_of_mem g)
  rw [List.mem_map, List.mem_map]
  constructor
  · rintro ⟨q, hq, rfl⟩
    rcases (hmem q).mp hq with h | h
    · rw [if_pos (hold h)]
      exact .inl ⟨q, h, (countedEntry_eq hc hg h).symm⟩
    · rw [if_neg (hnew h.1)]
      exact .inr h
  · rintro (⟨q, hq, rfl⟩ | h)
    · exact ⟨q, (hmem q).mpr (.inl hq), by rw [if_pos (hold hq), countedEntry_eq hc hg hq]⟩
    · exact ⟨p, (hmem p).mpr (.inr h), if_neg (hnew h.1)⟩

theorem due_eq_false {d : Deadline} (h : d ≠ .runningDown 0 ∧ d ≠ .runningDown 1) : d.due = false := by
  cases d with
  | none => rfl
  | spent => rfl
  | runningDown n =>
    obtain ⟨h0, h1⟩ := h
    refine decide_eq_false fun hn => ?_
    interval_cases n
    · exact h0 rfl
    · exact h1 rfl

/-- Without an occurrence of a Quiet MISMATCH, step 4 changes only MISMATCH's counts (R84, R85, R150). -/
theorem Checked.still {c v : State} {joined : Word} (h : Checked c joined v)
    (hq : joined = 0 ∨ (c.src mismatchId).state ≠ .quiet) : v = { c with srcs := v.srcs } := by
  by_cases hj : joined = 0
  · rw [h.agrees hj]
  have hm := h.joins hj
  have hn := hq.resolve_left hj
  cases hs : (c.src mismatchId).state with
  | disarmed => rw [hm.disarmed hs]
  | quiet => exact absurd hs hn
  | pending =>
    have := hm.counted (.inl hs)
    rw [this]
    rfl
  | absorbed =>
    have := hm.counted (.inr hs)
    rw [this]
    rfl
  | serving =>
    cases hr : (c.src mismatchId).repeats with
    | true =>
      have := hm.repeated hs hr
      rw [this]
      rfl
    | false => rw [hm.dropped hs hr]

/-- With nothing to check, no channel joins (R147). -/
theorem joining_of_rbcheck {s : State} (h : s.act.rbcheck = 0) : s.joining = 0 := by
  refine word_ext fun c => ?_
  rw [State.joining, getLsbD_wordOf]
  simp [checkChannel, h]

/-- What the readback comparison of a tick makes of the readback check and the hold (R35, R147 to R149). -/
structure ReadBack (s : State) (readback : Word) (joined : Word) (c : State) : Prop where
  check  : ∀ k : Channel, (c.act.counters.get k, c.act.mismatchSet.getLsbD k.val) =
    if s.act.rbcheck.getLsbD k.val = false then (0, false)
    else if s.act.mismatchSet.getLsbD k.val then
      (if readback.getLsbD k.val != s.act.effective.getLsbD k.val then (s.act.counters.get k, true) else (0, false))
    else if s.act.moved.getLsbD k.val || !(readback.getLsbD k.val != s.act.effective.getLsbD k.val) then (0, false)
    else (s.act.counters.get k + 1, decide ((s.regs.policy.extractLsb' 8 4).toNat ≤ s.act.counters.get k + 1))
  joins  : c.act.mismatchSet &&& ~~~s.act.mismatchSet = joined
  det    : c.act.mismatchDet = s.act.mismatchDet ||| joined
  hold   : c.link.hold = s.link.hold.map (markedHold 0x27 (c.act.mismatchDet != s.act.mismatchDet))
  none   : s.act.rbcheck = 0 → joined = 0

theorem readBack_compareReadback (s : State) (lines : BitVec 24) (readback : Word) :
    ReadBack s readback (sampledTick lines readback s).joining (compareReadback (sampledTick lines readback s)) := by
  rw [compareReadback_checked]
  refine ⟨fun k => ?_, (joining_eq (sampledTick lines readback s)).symm, rfl, rfl, fun h => joining_of_rbcheck h⟩
  have hraw : (sampledTick lines readback s).scan.rawReadback = readback := by
    unfold sampledTick sampleInputs
    split <;> rfl
  have h := checkChannel_table (sampledTick lines readback s) k
  rw [hraw] at h
  rw [get_ofFn, getLsbD_wordOf, h]
  rfl

/-- A running deadline with its remainder one less. -/
def Deadline.less : Deadline → Deadline
  | .runningDown n => .runningDown (n - 1)
  | .none => .none
  | .spent => .spent

/-- A deadline that does not end is counted by one (R128, R132). -/
theorem counted_of_not_due {d : Deadline} (h : d ≠ .runningDown 0 ∧ d ≠ .runningDown 1) : d.counted = d.less := by
  cases d with
  | none => rfl
  | spent => rfl
  | runningDown n =>
    obtain ⟨h0, h1⟩ := h
    refine if_neg fun hn => ?_
    interval_cases n
    · exact h0 rfl
    · exact h1 rfl

/-- The stack after the counts: the top counted, where nothing was pushed (R93, R132). -/
theorem svc_countLate {depth : Nat} {l : List SourceId} {v : State} (h : v.svc.stack.length = depth) :
    (countLate depth l v).svc =
      { v.svc with stack := mapTop (fun e => { e with deadline := e.deadline.counted }) v.svc.stack } := by
  rw [countLate_eq]
  show (countService depth v).svc = _
  rw [countService, if_pos h]
  rfl

theorem svc_countLate_pushed {depth : Nat} {l : List SourceId} {v : State} (h : v.svc.stack.length ≠ depth) :
    (countLate depth l v).svc = v.svc := by
  rw [countLate_eq]
  show (countService depth v).svc = _
  rw [countService, if_neg h]

/-- Settles O50. -/
theorem runningTickCountsDeadlines : Obligations.RunningTickCountsDeadlines := by
  unfold Obligations.RunningTickCountsDeadlines
  intro s lines readback hleg hh hl hm hp hsilent htop hentries h0 h1
  have hsound := hleg.sound
  have hends : s.NothingEnds := ⟨fun e rest hs => due_eq_false (htop e rest hs), fun e he => due_eq_false (hentries e he), h0, h1⟩
  obtain ⟨v, hv, hx⟩ := exec_quietTick hsound hh hl hm hp hsilent hends
  have hc := compared_compareReadback hsound lines readback
  have hr := readBack_compareReadback s lines readback
  generalize (sampledTick lines readback s).joining = joined at hv hr
  generalize compareReadback (sampledTick lines readback s) = c at hv hc hr
  dsimp only
  generalize hu : (if v.mc.mode = .running then countLate s.svc.stack.length s.waitingSources v else v) = u at hx
  have hlate := late_units hu
  have hact : u.act = v.act := by rw [hlate]
  have hsrcs : u.srcs = v.srcs := by rw [hlate]
  have hmc : u.mc = v.mc := by rw [hlate]
  have hset : (endHappening u).act.mismatchSet &&& ~~~s.act.mismatchSet = joined := by
    rw [endHappening_act_mismatchSet, hact, hv.frame.act]
    exact hr.joins
  have hdet : (endHappening u).act.mismatchDet = c.act.mismatchDet := by
    rw [endHappening_act_mismatchDet, hact, hv.frame.act]
  have hgrows := hv.grows hc.sound
  have hstill := fun (h : joined = 0 ∨ (s.src mismatchId).state ≠ .quiet) => hv.still (by rw [hc.src]; exact h)
  refine ⟨_, hx, ?_, fun hrb => ?_, fun hcase => ?_, fun hrun => ?_, fun k => ?_, ?_, ?_, fun hcase => ?_, fun hj hs => ?_,
    fun hj hs => ⟨fun hr => ?_, fun hr => ?_⟩, fun hj hq hsev => ?_, fun hj hq hsev he => ?_, fun hj hq hsev => ?_⟩
  · rw [endHappening_tc, hlate, hv.frame.tc, hc.tc]
  · have hj := hr.none hrb
    have hd : c.act.mismatchDet = s.act.mismatchDet := by
      rw [hr.det, hj]
      exact BitVec.or_zero
    have hlink : c.link = s.link := by
      rw [hc.units, hr.hold, hd, bne_self_eq_false, map_markedHold_false]
    refine ⟨hset.trans hj, ?_, ?_⟩
    · rw [endHappening_srcs, hsrcs, hv.agrees hj, hc.srcs]
    · rw [endHappening_link, hlate, hv.agrees hj, hlink]
  · rw [hset] at hcase
    have hunits := hstill hcase
    have hvmc : v.mc = s.mc := by rw [hunits, ← hc.mc]
    have hrun : v.mc.mode = .running := by rw [hvmc, hm]
    rw [if_pos hrun] at hu
    have hvarb : v.arb = s.arb := by rw [hunits, ← hc.arb]
    have hvsvc : v.svc = s.svc := by rw [hunits, ← hc.svc]
    have hlist := congrArg Arbiter.waiting hvarb
    refine ⟨?_, ?_, ?_, ?_, ?_, ?_, ?_, ?_, ?_⟩
    · rw [endHappening_jn, hlate, hunits, ← hc.jn]
    · rw [endHappening_act_sets, hact, hunits, hc.units]
    · rw [endHappening_act_frozen, hact, hunits, hc.units]
    · rw [endHappening_act_frozenLevel, hact, hunits, hc.units]
    · rw [endHappening_mc, hmc, hvmc]
    · rw [endHappening_regs, hlate, hunits, ← hc.regs]
    · rw [hdet, endHappening_link, hlate, hunits, hc.units, hr.hold]
      rfl
    · rw [endHappening_svc, ← hu, svc_countLate (by rw [hvsvc]), hvsvc]
      cases hst : s.svc.stack with
      | nil => rfl
      | cons e rest =>
        rw [mapTop, counted_of_not_due (htop e rest hst)]
        rfl
    · show ({ u.arb with alert := _ } : Arbiter) = _
      rw [← hu, countLate_eq]
      show ({ v.arb with waiting := _, alert := _ } : Arbiter) = _
      rw [hvarb]
      refine congrArg (fun l => ({ s.arb with waiting := l, alert := _ } : Arbiter)) ?_
      refine List.map_congr_left fun p hp => ?_
      have hi : p.source ∈ s.waitingSources := List.mem_map.mpr ⟨p, hp, rfl⟩
      rw [if_pos hi, countedEntry_eq hc hgrows hp, State.countedEntry,
        counted_of_not_due (hentries p hp)]
      rfl
  · rw [endHappening_mc, hmc] at hrun
    rw [if_pos hrun] at hu
    refine ⟨?_, ?_, fun p => ?_⟩
    · rw [endHappening_dl, ← hu, countLate_eq, hv.frame.dl, hc.dl]
    · rw [endHappening_svc, ← hu]
      rcases hv.stack with hst | hst
      · rw [hc.svc] at hst
        left
        rw [svc_countLate (by rw [hst]), hst]
        cases hs : s.svc.stack with
        | nil => rfl
        | cons e rest =>
          rw [mapTop, counted_of_not_due (htop e rest hs)]
          rfl
      · rw [hc.svc, hc.src] at hst
        right
        rw [svc_countLate_pushed (by rw [hst, List.length_cons]; omega), hst]
        rfl
    · have hmap : (s.arb.waiting.map s.countedEntry) = s.arb.waiting.map fun e =>
          { e with deadline := if s.eligible e.source then e.deadline.less else e.deadline } :=
        List.map_congr_left fun e he => by rw [State.countedEntry, counted_of_not_due (hentries e he)]
      have hsrc : (endHappening u).src p.source = v.src p.source := by
        rw [src_endHappening, State.src, hsrcs]
        rfl
      rw [endHappening_arb_waiting, hsrc, ← hu, countLate_eq]
      refine (mem_countLate hsound hc hgrows p).trans ?_
      rw [hmap]
      rfl
  · rw [endHappening_act_counters, endHappening_act_mismatchSet, hact, hv.frame.act]
    exact hr.check k
  · rw [hdet, hr.det, hset]
  · rw [endHappening_act_effective]
    show u.act.moved ||| (u.act.effective ^^^ u.effectiveWord) = _
    rw [hact, hv.frame.act, hc.units]
    exact BitVec.zero_or
  · rw [endHappening_srcs, endHappening_mc, hsrcs, hmc]
    rw [hset] at hcase
    have : v = c := by
      by_cases hj : joined = 0
      · exact hv.agrees hj
      · exact (hv.joins hj).disarmed (by rw [hc.src]; exact hcase.resolve_left hj)
    rw [this, hc.srcs, hc.mc]
    exact ⟨rfl, rfl⟩
  · rw [hset] at hj ⊢
    rw [endHappening_srcs, hsrcs, (hv.joins hj).counted (by rw [hc.src]; exact hs), hc.src, satInc_eq, State.setSrc, hc.srcs]
    rfl
  · rw [hset] at hj ⊢
    rw [endHappening_srcs, hsrcs, (hv.joins hj).repeated (by rw [hc.src]; exact hs) (by rw [hc.src]; exact hr), hc.src,
      satInc_eq, State.setSrc, hc.srcs]
    rfl
  · rw [hset] at hj
    rw [endHappening_srcs, hsrcs, (hv.joins hj).dropped (by rw [hc.src]; exact hs) (by rw [hc.src]; exact hr), hc.srcs]
  · rw [hset] at hj ⊢
    have hq' : (c.src mismatchId).state = .quiet := by rw [hc.src]; exact hq
    have hd : c.decision mismatchId = .normal := by
      rw [hc.decision, decision_fault (hsound.cls_fault (.inr rfl))]
      rcases hsev with h0 | ⟨h3, he⟩
      · rw [if_pos h0]
      · have := severity_le hsound
        split
        · rfl
        · rw [if_pos (by omega), he]
          rfl
    have hl := (hv.joins hj).latched hq' hd
    have hsource := hl.source
    have hbinds := hl.binds
    rw [latchedSource, hc.src, hc.arb, hc.tc] at hsource
    rw [hc.src] at hbinds
    have hy : (endHappening u).src mismatchId = v.src mismatchId := by
      rw [src_endHappening, State.src, hsrcs]
      rfl
    have hrun : v.mc.mode = .running := by rw [hl.mc, hc.mc, hm]
    rw [if_pos hrun] at hu
    refine ⟨by rw [endHappening_mc, hmc, hrun], ?_, ?_, ?_, ?_, ?_, fun hw => ?_⟩
    · rw [hy, hsource]
    · rw [hy, hsource]
    · rw [hy, hsource]
    · rw [hy, hsource]
    · refine (List.mem_map.mpr ⟨{ source := mismatchId, deadline := (s.src mismatchId).freshClaimDeadline }, ?_, rfl⟩)
      rw [endHappening_arb_waiting, ← hu, countLate_eq]
      refine (mem_countLate hsound hc hgrows _).mpr (.inr ⟨by rw [hq]; decide, by rw [hsource], rfl⟩)
    · have hb : v.bound (setOf (s.src mismatchId).reactionSet.toNat) mismatchId :=
        hbinds hw (hsound.names_set (i := mismatchId) (by rw [hq]; decide) (by rw [hw]; decide))
      exact hb.of_sets (by rw [endHappening_act_sets, hact])
  · rw [hset] at hj ⊢
    have hq' : (c.src mismatchId).state = .quiet := by rw [hc.src]; exact hq
    have hd : c.decision mismatchId = .compound := by
      rw [hc.decision, decision_fault (hsound.cls_fault (.inr rfl)), if_neg (by omega), if_pos hsev, if_pos he]
    have hmis := hv.joins hj
    have hsource := hmis.absorbed hq' hd
    have hy : (endHappening u).src mismatchId = v.src mismatchId := by
      rw [src_endHappening, State.src, hsrcs]
      rfl
    refine ⟨by rw [hy, hsource], by rw [hy, hsource], by rw [hy, hsource], fun hlen => ?_, fun hlen => ?_⟩
    · obtain ⟨hvmc, hvsvc⟩ := hmis.pushed hq' hd (by rw [hc.svc]; exact hlen)
      have hrun : v.mc.mode = .running := by rw [hvmc, hc.mc, hm]
      have hdepth : v.svc.stack.length ≠ s.svc.stack.length := by
        rw [hvsvc, hc.svc, List.length_cons]
        omega
      rw [if_pos hrun] at hu
      rw [endHappening_mc, endHappening_svc, hmc, hrun, ← hu, svc_countLate_pushed hdepth, hvsvc, hc.svc, hc.src, hc.stackField]
      exact ⟨rfl, rfl, rfl⟩
    · obtain ⟨hmode, hvsvc, hrec⟩ := hmis.overfull hq' hd (by rw [hc.svc]; omega)
      rw [if_neg (by rw [hmode]; decide)] at hu
      subst hu
      rw [endHappening_mc, endHappening_svc, hvsvc, hrec, hc.svc, hc.stackField]
      exact ⟨hmode, rfl, rfl⟩
  · rw [hset] at hj
    have hq' : (c.src mismatchId).state = .quiet := by rw [hc.src]; exact hq
    have hd : c.decision mismatchId = .lockdown 2 := by
      rw [hc.decision, decision_fault (hsound.cls_fault (.inr rfl)), hsev]
      rfl
    have hl := (hv.joins hj).locked 2 hq' hd
    rw [if_neg (by rw [hl.mode]; decide)] at hu
    subst hu
    rw [endHappening_mc, endHappening_srcs, endHappening_svc, endHappening_arb_waiting, endHappening_dl, hl.lockrec, hl.srcs,
      hl.svc, hl.arb, hl.dl, hc.srcs, hc.svc, hc.arb, hc.dl, hc.stackField]
    exact ⟨hl.mode, rfl, rfl, rfl, rfl, rfl⟩

end Sys2Proof.Machine
end

section
/-! PROOFS. The occurrences of the lines at a tick in Running (step 3), one line after another. -/

namespace Sys2Proof.Machine

-- one proof after another: each thread that elaborates costs the check a GiB of its memory limit
set_option Elab.async false

/-! ## When a line's source has an occurrence -/

/-- The filtered level of the line changes at this tick (R60). -/
def State.settles (s : State) (lines : BitVec 24) (k : LineId) : Prop :=
  lines.getLsbD k.val ≠ s.scan.filtered.getLsbD k.val
    ∧ max 1 ((s.src (lineSource k)).w1.extractLsb' 12 4).toNat ≤ s.scan.settle.get k + 1

/-- The line's filtered level after this tick's sample (R60). -/
def State.high (s : State) (lines : BitVec 24) (k : LineId) : Prop :=
  (s.settles lines k ∧ lines.getLsbD k.val = true) ∨ (¬s.settles lines k ∧ s.scan.filtered.getLsbD k.val = true)

/-- The line's source has an occurrence at this tick (R63, R64). -/
def State.occurs (s : State) (lines : BitVec 24) (k : LineId) : Prop :=
  (s.src (lineSource k)).state ≠ .disarmed
  ∧ ((((s.src (lineSource k)).w0.extractLsb' 0 3).toNat = 0 ∧ s.high lines k
      ∧ (s.settles lines k ∨ (s.src (lineSource k)).state = .quiet))
    ∨ (((s.src (lineSource k)).w0.extractLsb' 0 3).toNat = 1 ∧ ¬s.high lines k
      ∧ (s.settles lines k ∨ (s.src (lineSource k)).state = .quiet))
    ∨ (((s.src (lineSource k)).w0.extractLsb' 0 3).toNat = 2 ∧ s.settles lines k ∧ lines.getLsbD k.val = true)
    ∨ (((s.src (lineSource k)).w0.extractLsb' 0 3).toNat = 3 ∧ s.settles lines k ∧ lines.getLsbD k.val = false)
    ∨ (((s.src (lineSource k)).w0.extractLsb' 0 3).toNat = 4 ∧ s.settles lines k))

/-- The detail word shows the level of the line (R65). -/
def State.showsLevel (s : State) (lines : BitVec 24) (k : LineId) (d : Word) : Prop :=
  (s.high lines k → d = 1) ∧ (¬s.high lines k → d = 0)

section
variable {s : State} (lines : BitVec 24) (readback : Word) (hs : s.scan.started = true) (k : LineId)
include hs

theorem filtered_iff : (sampledTick lines readback s).scan.filtered.getLsbD k.val = true ↔ s.high lines k := by
  have h := congrArg Prod.fst (sampleInputs_line lines readback s k)
  rw [if_neg (by rw [hs]; decide)] at h
  show (sampleInputs lines readback s).scan.filtered.getLsbD k.val = true ↔ _
  dsimp only at h
  rw [h, State.high, State.settles]
  have hsettle : (s.src (lineSource k)).settle = ((s.src (lineSource k)).w1.extractLsb' 12 4).toNat := rfl
  rw [hsettle]
  generalize lines.getLsbD k.val = raw
  generalize s.scan.filtered.getLsbD k.val = old
  by_cases hq : max 1 ((s.src (lineSource k)).w1.extractLsb' 12 4).toNat ≤ s.scan.settle.get k + 1
  · simp only [hq, if_true, and_true]
    cases raw <;> cases old <;> decide
  · simp only [hq, if_false, and_false, false_and, not_false_eq_true, true_and, false_or]
    cases raw <;> cases old <;> simp

theorem changed_iff : (s.changedLines lines).getLsbD k.val = true ↔ s.settles lines k := by
  rw [State.changedLines, if_pos hs, getLsbD_ofFnLE, State.settleOf, settleLine, State.settles]
  have hsettle : (s.src (lineSource k)).settle = ((s.src (lineSource k)).w1.extractLsb' 12 4).toNat := rfl
  rw [hsettle]
  generalize lines.getLsbD k.val = raw
  generalize s.scan.filtered.getLsbD k.val = old
  by_cases hq : max 1 ((s.src (lineSource k)).w1.extractLsb' 12 4).toNat ≤ s.scan.settle.get k + 1
  · simp only [hq, if_true, and_true]
    cases raw <;> cases old <;> decide
  · simp only [hq, if_false, and_false]
    cases raw <;> cases old <;> simp

/-- R63 and R64 in the words of the bits of W0. -/
theorem lineOccurs_iff :
    (sampledTick lines readback s).lineOccurs (s.changedLines lines) k = true ↔ s.occurs lines k := by
  have hf := filtered_iff lines readback hs k
  have hc := changed_iff lines hs k
  have hsrc : (sampledTick lines readback s).src (lineSource k) = s.src (lineSource k) := rfl
  have hhigh (h : s.settles lines k) : s.high lines k ↔ lines.getLsbD k.val = true := by
    simp [State.high, h]
  rw [State.lineOccurs, hsrc, State.occurs]
  generalize (sampledTick lines readback s).scan.filtered.getLsbD k.val = level at hf ⊢
  generalize (s.changedLines lines).getLsbD k.val = change at hc ⊢
  generalize s.src (lineSource k) = x
  have htrigger : x.trigger = triggerOf (x.w0.extractLsb' 0 3) := rfl
  rw [Bool.and_eq_true, armed_iff, htrigger]
  refine and_congr Iff.rfl ?_
  generalize x.w0.extractLsb' 0 3 = code
  have hquiet : (x.state == .quiet) = true ↔ x.state = .quiet := beq_iff_eq
  generalize (x.state == .quiet) = quiet at hquiet
  have hraw (h : change = true) : lines.getLsbD k.val = level := by
    rw [Bool.eq_iff_iff, hf]
    exact (hhigh (hc.mp h)).symm
  generalize lines.getLsbD k.val = raw at hraw ⊢
  rw [← hf, ← hc, ← hquiet]
  clear hf hc hquiet hhigh
  cases change with
  | false => cases level <;> cases quiet <;> (clear hraw; revert code; cases raw <;> decide)
  | true =>
    obtain rfl := hraw rfl
    cases raw <;> cases quiet <;> (clear hraw; revert code; decide)

end

end Sys2Proof.Machine
end

section
/-! PROOFS. What a tick in Running does before and after the occurrence of one line. -/

namespace Sys2Proof.Machine

-- one proof after another: each thread that elaborates costs the check a GiB of its memory limit
set_option Elab.async false

/-! ## The lines before and after one of them -/

/-- The lines are processed in ascending order (R65). -/
theorem finRange_split (k : LineId) :
    ∃ pre post, List.finRange 24 = pre ++ k :: post ∧ (∀ j ∈ pre, j < k) ∧ ∀ j ∈ post, k < j := by
  obtain ⟨pre, post, h⟩ := List.append_of_mem (List.mem_finRange k)
  have hs := (List.sortedLT_finRange 24).pairwise
  rw [h, List.pairwise_append, List.pairwise_cons] at hs
  exact ⟨pre, post, h, fun j hj => hs.2.2 j hj k List.mem_cons_self, hs.2.1.1⟩

theorem lineSource_injective {j k : LineId} (h : lineSource j = lineSource k) : j = k :=
  Fin.ext (congrArg (fun i : SourceId => i.val) h)

/-- No line's source is an internal one. -/
theorem lineSource_ne {i : SourceId} (hi : 24 ≤ i.val) (k : LineId) : lineSource k ≠ i := by
  intro h
  have hv : k.val = i.val := congrArg (fun i : SourceId => i.val) h
  omega

section
variable {A : SourceId → Prop} {P : State → Prop}

theorem EngineKeepsOn.lines (h : EngineKeepsOn A Always P) {l : List LineId} (hA : ∀ j ∈ l, A (lineSource j)) {w : Work}
    (hw : P w.st) (changed : BitVec 24) : P (l.foldl (scanLine changed) w).st := by
  refine foldl_keeps (fun v j hj hv => ?_) hw
  unfold scanLine
  split
  · exact h.occurAll hv (hA j hj) _
  · exact hv

/-- What the lines that follow, the steps that follow and the end keep. -/
theorem RestKeepsOn.afterLines {V : SourceId → Prop} {depth : Nat} (h : RestKeepsOn A V depth Always P)
    {l : List LineId} (hA : ∀ j ∈ l, A (lineSource j)) {w : Work} (hw : P w.st) (changed : BitVec 24)
    {atStart : List SourceId} (hv : ∀ i ∈ atStart, V i) :
    P (drain (Machine.restSteps depth atStart (l.foldl (scanLine changed) w))).st :=
  h.engine.drain (h.restSteps (h.engine.lines hA hw changed) hv)

end

/-- After an entry to Lockdown nothing more happens (R94). -/
theorem afterLines_of_not_live {w : Work} (h : w.live = false) (depth : Nat) (atStart : List SourceId)
    (l : List LineId) (changed : BitVec 24) :
    (drain (restSteps depth atStart (l.foldl (scanLine changed) w))).st = w.st := by
  have hfold : l.foldl (scanLine changed) w = w := by
    induction l with
    | nil => rfl
    | cons j l ih =>
      rw [List.foldl_cons, scanLine, h, Bool.false_and, if_neg (by decide)]
      exact ih
  rw [hfold, restSteps, ifLive_of_not_live h, ifLive_of_not_live h, ifLive_of_not_live h, ifLive_of_not_live h,
    drain_st_of_not_live h]

/-! ## Properties of one line's source -/

/-- A claim-deadline mark is set on entries that step 6 visits (R129). -/
theorem expired_rest {A V : SourceId → Prop} (hj : A journalId) (hs : A staleId) (hw : A silenceId) (hm : A mismatchId)
    (ho : A overrunId) {i : SourceId} (hi : ¬A i) (hc : i ≠ compoundId) (hv : ¬V i) (depth : Nat) (e : Bool) :
    RestKeepsOn A V depth Always fun t => (t.src i).expired = e where
  engine := engine_src hj hi hc _ (·.expired = e)
  stale := hs
  silence := hw
  mismatch := hm
  overdue := ho
  entry := fun _ _ _ _ _ h => h
  expired := fun s k hk _ _ h => by
    rw [src_setSrc_ne s (by rintro rfl; exact hv hk)]
    exact h
  watchdog := fun _ _ _ h => h
  compare := fun s _ h => by
    rw [compareReadback_eq]
    exact h
  top := fun _ _ _ _ h => h
  overrun := fun s top rest _ _ _ h => by
    rw [src_setSrc]
    split
    · next hk => subst hk; exact h
    · exact h
  nested := fun _ _ _ _ _ _ h => h

/-- An occurrence changes no mask bit but that of its own source (R74). -/
theorem masked_rest {A V : SourceId → Prop} (hj : A journalId) (hs : A staleId) (hw : A silenceId) (hm : A mismatchId)
    (ho : A overrunId) {i : SourceId} (hi : ¬A i) (depth : Nat) (m : Bool) :
    RestKeepsOn A V depth Always fun t => t.masked i = m where
  engine :=
    { derived := hj
      journal := fun _ _ _ _ _ h => h
      bind := fun _ _ _ _ h => h
      lock := fun _ _ _ _ _ _ _ _ _ _ h => h
      latch := fun s j d ha _ _ _ _ h => by
        rw [masked_maskedLatch, decide_eq_false (by rintro rfl; exact hi ha), Bool.false_and, Bool.or_false]
        exact h
      push := fun s j d top _ _ _ _ _ _ _ _ h => by
        have hmask : (pushState top.source j (absorbState j d s)).srcs.mask = s.srcs.mask := rfl
        rw [State.masked, hmask]
        exact h
      full := fun _ _ _ _ _ _ _ _ _ _ _ h => h
      count := fun _ _ _ _ _ _ _ h => h
      again := fun _ _ _ _ _ _ _ h => h }
  stale := hs
  silence := hw
  mismatch := hm
  overdue := ho
  entry := fun _ _ _ _ _ h => h
  expired := fun _ _ _ _ _ h => h
  watchdog := fun _ _ _ h => h
  compare := fun s _ h => by
    rw [compareReadback_eq]
    exact h
  top := fun _ _ _ _ h => h
  overrun := fun _ _ _ _ _ _ h => h
  nested := fun _ _ _ _ _ _ h => h

/-- COMPOUND stands on top of the stack. -/
def State.compoundTop (s : State) : Prop := ∃ e rest, s.svc.stack = e :: rest ∧ e.source = compoundId

theorem severity_of_compoundTop {s : State} (h : s.Sound) (hc : s.compoundTop) : s.severity = 3 := by
  obtain ⟨e, rest, hs, he⟩ := hc
  rw [h.severity_top hs]
  exact if_pos he

/-- Over COMPOUND nothing compounds (R114). -/
theorem decision_ne_compound {s : State} (h : s.severity = 3) (i : SourceId) : s.decision i ≠ .compound := by
  rw [State.decision, h]
  cases (s.src i).cls <;> nofun

/-- A COMPOUND entry that was pushed at this tick stays on top as it is (R93). -/
theorem svc_rest {v : ServiceUnit} {e : StackEntry} {rest : List StackEntry} (hs : v.stack = e :: rest)
    (he : e.source = compoundId) (V : SourceId → Prop) {depth : Nat} (hd : v.stack.length ≠ depth) :
    RestKeepsOn (· ≠ compoundId) V depth State.Sound fun t => t.svc = v := by
  have hne {t : State} (hsound : t.Sound) (h : t.svc = v) (i : SourceId) : t.decision i ≠ .compound :=
    decision_ne_compound (severity_of_compoundTop hsound ⟨e, rest, by rw [h, hs], he⟩) i
  exact
    { engine :=
        { derived := by decide
          journal := fun _ _ _ _ _ h => h
          bind := fun _ _ _ _ h => h
          lock := fun _ _ _ _ _ _ _ _ _ _ h => h
          latch := fun s i d _ _ _ _ _ h => by
            rw [maskedLatch_eq, latchState_eq]
            exact h
          push := fun s i d _ _ _ _ _ hdec _ _ hsound h => absurd hdec (hne hsound h i)
          full := fun s i d _ _ _ _ _ hdec _ hsound h => absurd hdec (hne hsound h i)
          count := fun _ _ _ _ _ _ _ h => h
          again := fun _ _ _ _ _ _ _ h => h }
      stale := by decide
      silence := by decide
      mismatch := by decide
      overdue := by decide
      entry := fun _ _ _ _ _ h => h
      expired := fun _ _ _ _ _ h => h
      watchdog := fun _ _ _ h => h
      compare := fun s _ h => by
        rw [compareReadback_eq]
        exact h
      top := fun s _ hl _ h => absurd (h ▸ hl) hd
      overrun := fun _ _ _ _ _ _ h => h
      nested := fun s _ _ _ hl _ h => absurd (h ▸ hl) hd }

/-- The stack is as it was, or COMPOUND stands on top of it. -/
theorem stack_engine (v : ServiceUnit) :
    EngineKeepsOn (· ≠ compoundId) Always fun t => t.svc = v ∨ t.compoundTop where
  derived := by decide
  journal := fun _ _ _ _ _ h => h
  bind := fun _ _ _ _ h => h
  lock := fun _ _ _ _ _ _ _ _ _ _ h => h
  latch := fun s i d _ _ _ _ _ h => by
    rw [State.compoundTop, maskedLatch_eq, latchState_eq]
    exact h
  push := fun _ _ _ _ _ _ _ _ _ _ _ _ _ => .inr ⟨_, _, rfl, rfl⟩
  full := fun _ _ _ _ _ _ _ _ _ _ _ h => h
  count := fun _ _ _ _ _ _ _ h => h
  again := fun _ _ _ _ _ _ _ h => h

end Sys2Proof.Machine
end

section
/-! PROOFS. A tick in Running as one of the lines sees it. -/

namespace Sys2Proof.Machine

-- one proof after another: each thread that elaborates costs the check a GiB of its memory limit
set_option Elab.async false

/-! ## Before the line -/

/-- What the lines before one leave of the tick's state. -/
structure BeforeLine (s : State) (lines : BitVec 24) (readback : Word) (k : LineId) (w : Work) : Prop where
  sound    : w.st.Sound
  frame    : EngineFrame (sampledTick lines readback s) w.st
  source   : w.st.src (lineSource k) = s.src (lineSource k)
  masked   : w.st.masked (lineSource k) = s.masked (lineSource k)
  stack    : w.st.svc = s.svc ∨ w.st.compoundTop
  position : s.arb.nextPosition ≤ w.st.arb.nextPosition
  first    : (∀ j < k, ¬s.occurs lines j) → w = begin (sampledTick lines readback s)

/-- Other sources than one line's and COMPOUND. -/
def Others (k : LineId) (i : SourceId) : Prop := i ≠ lineSource k ∧ i ≠ compoundId

theorem others_internal {i : SourceId} (h : 24 ≤ i.val) (hc : i ≠ compoundId) (k : LineId) : Others k i :=
  ⟨fun e => lineSource_ne h k e.symm, hc⟩

theorem others_line {j k : LineId} (h : j ≠ k) : Others k (lineSource j) :=
  ⟨fun e => h (lineSource_injective e), lineSource_ne_compound j⟩

theorem not_others (k : LineId) : ¬Others k (lineSource k) := fun h => h.1 rfl

theorem lineOccurs_congr {s t : State} {k : LineId} (hs : t.src (lineSource k) = s.src (lineSource k))
    (hf : t.scan = s.scan) (changed : BitVec 24) : t.lineOccurs changed k = s.lineOccurs changed k := by
  rw [State.lineOccurs, State.lineOccurs, hs, hf]

theorem sound_sampledTick {s : State} (h : s.Sound) (lines : BitVec 24) (readback : Word) :
    (sampledTick lines readback s).Sound :=
  ⟨h.valid.of_units rfl rfl rfl rfl (.inl rfl), h.fields.of_same (.of_units rfl rfl rfl rfl)⟩

theorem frame_scanLine (changed : BitVec 24) (w : Work) (k : LineId) : EngineFrame w.st (scanLine changed w k).st := by
  unfold scanLine
  split
  · exact frame_occurAll _ _ _
  · exact .refl _

theorem frame_lines (changed : BitVec 24) (l : List LineId) (w : Work) :
    EngineFrame w.st (l.foldl (scanLine changed) w).st :=
  foldl_keeps (P := EngineFrame w.st) (fun v j _ hv => hv.trans (frame_scanLine changed v j)) (.refl _)

/-- A line whose source is as it was does what it would have done at the start of step 3. -/
theorem scanLine_silent {w : Work} {y : State} {k : LineId} (hs : w.st.src (lineSource k) = y.src (lineSource k))
    (hf : w.st.scan = y.scan) {changed : BitVec 24} (h : w.live = false ∨ y.lineOccurs changed k = false) :
    scanLine changed w k = w := by
  rw [scanLine, lineOccurs_congr hs hf]
  rcases h with h | h <;> simp [h]

theorem scanLine_occurs {w : Work} {y : State} {k : LineId} (hs : w.st.src (lineSource k) = y.src (lineSource k))
    (hf : w.st.scan = y.scan) {changed : BitVec 24} (hl : w.live = true) (h : y.lineOccurs changed k = true) :
    scanLine changed w k =
      occurAll (lineSource k) ((BitVec.ofBool (y.scan.filtered.getLsbD k.val)).zeroExtend 16) w := by
  rw [scanLine, lineOccurs_congr hs hf, hl, h, hf]
  rfl

/-- Lines with no occurrence. -/
theorem lines_silent {l : List LineId} {changed : BitVec 24} {w : Work}
    (h : ∀ j ∈ l, w.st.lineOccurs changed j = false) : l.foldl (scanLine changed) w = w := by
  induction l with
  | nil => rfl
  | cons j l ih =>
    rw [List.foldl_cons, scanLine_silent rfl rfl (.inr (h j List.mem_cons_self))]
    exact ih fun i hi => h i (List.mem_cons_of_mem _ hi)

section
variable {s : State} {lines : BitVec 24} {readback : Word} {k : LineId}

theorem beforeLine (hs : s.Sound) (hstarted : s.scan.started = true) {pre : List LineId} (hpre : ∀ j ∈ pre, j < k) :
    BeforeLine s lines readback k
      (pre.foldl (scanLine (s.changedLines lines)) (begin (sampledTick lines readback s))) := by
  have hA : ∀ j ∈ pre, Others k (lineSource j) := fun j hj => others_line (hpre j hj).ne
  have hc : ∀ j ∈ pre, lineSource j ≠ compoundId := fun j _ => lineSource_ne_compound j
  have hframe := frame_lines (s.changedLines lines) pre (begin (sampledTick lines readback s))
  have hj : Others k journalId := others_internal (by decide) (by decide) k
  have hsource := engine_src hj (not_others k) (lineSource_ne_compound k) Always (· = s.src (lineSource k))
  have hmasked := masked_rest (A := Others k) (V := fun _ => True) hj (others_internal (by decide) (by decide) k)
    (others_internal (by decide) (by decide) k) (others_internal (by decide) (by decide) k)
    (others_internal (by decide) (by decide) k) (not_others k) 0 (s.masked (lineSource k))
  have hp := position_tick s.arb.nextPosition
  exact
    { sound := sound_tick.engine.on.lines hc (sound_sampledTick hs lines readback) _
      frame := hframe
      source := hsource.lines hA (w := begin (sampledTick lines readback s)) rfl _
      masked := hmasked.engine.lines hA (w := begin (sampledTick lines readback s)) rfl _
      stack := (stack_engine s.svc).lines hc (w := begin (sampledTick lines readback s)) (.inl rfl) _
      position := hp.engine.on.lines hc (w := begin (sampledTick lines readback s)) (Nat.le_refl _) _
      first := fun h => lines_silent fun j hj => by
        rw [begin_st, Bool.eq_false_iff, ne_eq, lineOccurs_iff lines readback hstarted j]
        exact h j (hpre j hj) }

/-! ## After the line -/

/-- The state of a tick when only the end-of-happening updates remain: the lines of the list and steps 4 to 7. -/
def afterLines (s : State) (lines : BitVec 24) (l : List LineId) (w : Work) : State :=
  (drain (restSteps s.svc.stack.length s.waitingSources (l.foldl (scanLine (s.changedLines lines)) w))).st

/-- What the other lines and the steps that follow leave of one line's source. -/
structure AfterLine (s : State) (k : LineId) (w : Work) (u : State) : Prop where
  sound   : u.Sound
  source  : MarksOnly (w.st.src (lineSource k)) (u.src (lineSource k))
  expired : lineSource k ∉ s.waitingSources → (u.src (lineSource k)).expired = (w.st.src (lineSource k)).expired
  masked  : u.masked (lineSource k) = w.st.masked (lineSource k)
  bound   : ∀ m, w.st.bound m (lineSource k) → u.bound m (lineSource k)
  dead    : w.live = false → u = w.st
  pushed  : ∀ e rest, w.st.svc.stack = e :: rest → e.source = compoundId →
    w.st.svc.stack.length ≠ s.svc.stack.length → u.svc = w.st.svc

theorem afterLine {l : List LineId} (hl : ∀ j ∈ l, j ≠ k) {w : Work} (hw : w.st.Sound) :
    AfterLine s k w (afterLines s lines l w) := by
  have hA : ∀ j ∈ l, Others k (lineSource j) := fun j hj => others_line (hl j hj)
  have hc : ∀ j ∈ l, lineSource j ≠ compoundId := fun j _ => lineSource_ne_compound j
  have hO : ∀ i, Others k i → i ≠ compoundId := fun i h => h.2
  have hin {i : SourceId} (h : 24 ≤ i.val ∧ i ≠ compoundId) : Others k i := others_internal h.1 h.2 k
  have hv : ∀ i ∈ s.waitingSources, (fun _ => True) i := fun _ _ => trivial
  have hmarks := (marksOnly_rest (A := Others k) (hin (by decide)) (hin (by decide)) (hin (by decide))
    (hin (by decide)) (hin (by decide)) (fun _ => True) s.svc.stack.length (not_others k)
    (lineSource_ne_compound k) (w.st.src (lineSource k))).sound hO
  have hmasked := masked_rest (A := Others k) (V := fun _ => True) (hin (by decide)) (hin (by decide))
    (hin (by decide)) (hin (by decide)) (hin (by decide)) (not_others k) s.svc.stack.length
    (w.st.masked (lineSource k))
  have after := hmarks.afterLines hA ⟨hw, .refl _⟩ (s.changedLines lines) hv
  exact
    { sound := after.1
      source := after.2
      expired := fun hn => (expired_rest (A := Others k) (V := (· ≠ lineSource k)) (hin (by decide)) (hin (by decide))
        (hin (by decide)) (hin (by decide)) (hin (by decide)) (not_others k) (lineSource_ne_compound k)
        (not_not.mpr rfl) s.svc.stack.length _).afterLines hA (w := w) rfl (s.changedLines lines)
        fun i hi e => hn (e ▸ hi)
      masked := hmasked.afterLines hA (w := w) rfl (s.changedLines lines) hv
      bound := fun m hb => ((bound_tick m (lineSource k)).rest s.svc.stack.length).afterLines hc hb
        (s.changedLines lines) hv
      dead := fun hd => afterLines_of_not_live hd _ _ _ _
      pushed := fun e rest hst he hlen => ((svc_rest hst he (fun _ => True) hlen).sound fun _ h => h).afterLines hc
        (w := w) ⟨hw, rfl⟩ (s.changedLines lines) hv |>.2 }

/-! ## The tick around the line -/

/-- The tick in Running around the occurrence of one line, of a work `w` to a work `v`, with `u` at its end. -/
structure LineTick (s : State) (lines : BitVec 24) (readback : Word) (k : LineId) (w v : Work) (u : State) : Prop where
  before  : BeforeLine s lines readback k w
  after   : AfterLine s k v u
  earlier : ∀ j < k, MarksOnly (w.st.src (lineSource j)) (u.src (lineSource j))
  silent  : w.live = false ∨ ¬s.occurs lines k → v = w
  speaks  : w.live = true → s.occurs lines k → ∃ d, s.showsLevel lines k d ∧ v = occurAll (lineSource k) d w

theorem lineTick (hs : s.Sound) (hstarted : s.scan.started = true) (k : LineId) :
    ∃ w v, LineTick s lines readback k w v
      (afterLines s lines (List.finRange 24) (begin (sampledTick lines readback s))) := by
  obtain ⟨pre, post, hsplit, hpre, hpost⟩ := finRange_split k
  have hb := beforeLine (lines := lines) (readback := readback) hs hstarted hpre
  have hu : afterLines s lines (List.finRange 24) (begin (sampledTick lines readback s)) =
      afterLines s lines (k :: post)
        (pre.foldl (scanLine (s.changedLines lines)) (begin (sampledTick lines readback s))) := by
    rw [afterLines, hsplit, List.foldl_append]
    rfl
  rw [hu]
  generalize pre.foldl (scanLine (s.changedLines lines)) (begin (sampledTick lines readback s)) = w at hb ⊢
  have hsource : w.st.src (lineSource k) = (sampledTick lines readback s).src (lineSource k) := hb.source
  have hoccurs := lineOccurs_iff lines readback hstarted k
  refine ⟨w, scanLine (s.changedLines lines) w k, hb, ?_, fun j hj => ?_, fun h => ?_, fun hl ho =>
    ⟨_, ?_, scanLine_occurs hsource hb.frame.scan hl (hoccurs.mpr ho)⟩⟩
  · refine afterLine (fun j hj => (hpost j hj).ne') ?_
    exact sound_tick.engine.on.lines (l := [k]) (fun j _ => lineSource_ne_compound j) hb.sound _
  · refine (afterLine (s := s) (lines := lines) (l := k :: post) (k := j) (w := w) (fun i hi => ?_) hb.sound).source
    rcases List.mem_cons.mp hi with rfl | hi
    · exact hj.ne'
    · exact (hj.trans (hpost i hi)).ne'
  · refine scanLine_silent hsource hb.frame.scan (h.imp id fun hn => ?_)
    rw [Bool.eq_false_iff, ne_eq, hoccurs]
    exact hn
  · have hf := filtered_iff lines readback hstarted k
    refine ⟨fun hh => ?_, fun hh => ?_⟩
    · rw [hf.mpr hh]
      rfl
    · rw [Bool.eq_false_iff.mpr (mt hf.mp hh)]
      rfl

end

end Sys2Proof.Machine
end

section
/-! PROOFS. What a tick in Running makes of one line's source (O49). -/

namespace Sys2Proof.Machine

-- one proof after another: each thread that elaborates costs the check a GiB of its memory limit
set_option Elab.async false

/-! ## The source after its first latch -/

/-- A source that has latched in state `b`, into state `st` (R82, R115). -/
structure LatchedAs (b : State) (i : SourceId) (d : Word) (st : SrcState) (x : Source) : Prop where
  state  : x.state = st
  count  : x.count = 1
  detail : x.detail = d
  latch  : x.latch = some { position := b.arb.nextPosition, tick := b.tc.count }
  words  : x.w0 = (b.src i).w0 ∧ x.w1 = (b.src i).w1 ∧ x.w2 = (b.src i).w2

theorem LatchedAs.marks {b : State} {i : SourceId} {d : Word} {st : SrcState} {x y : Source}
    (h : LatchedAs b i d st x) (g : MarksOnly x y) : LatchedAs b i d st y := by
  obtain ⟨hb, -, -⟩ := g
  rw [hb]
  exact ⟨h.state, h.count, h.detail, h.latch, h.words⟩

theorem MarksOnly.same {x y : Source} (h : MarksOnly x y) (hp : x.state ≠ .pending) (hs : x.state ≠ .serving) :
    y = x := by
  rw [h.block, h.expired hp, h.overrun hs]

section
variable {w : Work} (hw : w.st.Sound) (hl : w.live = true) {i : SourceId} (hi : i ≠ compoundId) (hj : i ≠ journalId)
  (d : Word)
include hw hl hi hj

theorem src_occurAll_counts (hs : (w.st.src i).state = .pending ∨ (w.st.src i).state = .absorbed) :
    (occurAll i d w).st.src i = { w.st.src i with count := satInc (w.st.src i).count, detail := d } := by
  rw [((journalFrame_occurAll hw hi d).other i hj).1, occur_counts hl d hs, src_setSrc_self]

theorem src_occurAll_repeats (hs : (w.st.src i).state = .serving) (hr : (w.st.src i).repeats = true) :
    (occurAll i d w).st.src i =
      { w.st.src i with repeatCount := satInc (w.st.src i).repeatCount, detail := d } := by
  rw [((journalFrame_occurAll hw hi d).other i hj).1, occur_keepsBack hl d hs hr, src_setSrc_self]

theorem src_occurAll_discards (hs : (w.st.src i).state = .serving) (hr : (w.st.src i).repeats = false) :
    (occurAll i d w).st.src i = w.st.src i := by
  rw [((journalFrame_occurAll hw hi d).other i hj).1, occur_discards hl d hs hr]

variable (hq : (w.st.src i).state = .quiet)
include hq

theorem latchedAs_normal (hd : w.st.decision i = .normal) :
    LatchedAs w.st i d .pending ((occurAll i d w).st.src i) := by
  rw [(occurAll_latched hw hl hq hi hj hd d).source]
  exact ⟨rfl, rfl, rfl, rfl, rfl, rfl, rfl⟩

theorem latchedAs_compound (hd : w.st.decision i = .compound) :
    LatchedAs w.st i d .absorbed ((occurAll i d w).st.src i) := by
  obtain ⟨top, rest, hs⟩ := stack_of_compound hd
  by_cases hlen : w.st.svc.stack.length < Config.stackLimit
  · rw [(occurAll_escalated hw hl hq hi hj hd hs hlen d).source]
    exact ⟨rfl, rfl, rfl, rfl, rfl, rfl, rfl⟩
  · rw [(occurAll_overfull hl hq hd hs hlen d).source]
    exact ⟨rfl, rfl, rfl, rfl, rfl, rfl, rfl⟩

end

/-! ## The binding of an absorbed source -/

theorem bound_applied {s : State} {m : SetId} {i : SourceId} (h : s.bound m i) (j : SourceId) :
    (s.applied j).bound m i := by
  have hb := (bound_tick m i).engine.applyReaction (w := begin s) h j
  rwa [applyReaction_applied] at hb

/-- A source that reacts at its latch is bound to its set when it is absorbed (R115, R141). -/
theorem absorbs_binds {i : SourceId} {s : State} (h : (s.src i).reactionSet ≠ 0) (hw : (s.src i).reactWhen = .atLatch)
    (detail : Word) (partner : SourceId) :
    (s.absorbs i detail partner).bound (setOf (s.src i).reactionSet.toNat) i := by
  have hb : (s.reacted i).bound (setOf (s.src i).reactionSet.toNat) i := by
    rw [State.reacted, if_pos hw]
    exact applied_binds h
  exact hb.of_sets (by rw [absorbs_eq])

theorem compoundLatch_bound {w : Work} {top : StackEntry} {rest : List StackEntry} (hs : w.st.svc.stack = top :: rest)
    {i : SourceId} {detail : Word} {m : SetId} (h : (w.st.absorbs i detail top.source).bound m i) :
    (compoundLatch i detail w).st.bound m i := by
  rw [compoundLatch_st hs]
  generalize w.st.absorbs i detail top.source = v at h
  split
  · refine bound_applied (State.bound.of_sets h ?_) _
    rw [wrote_eq]
    rfl
  · exact h.of_sets (by rw [lockedBy_eq])

theorem occurAll_binds {w : Work} (hw : w.st.Sound) (hl : w.live = true) {i : SourceId} (hi : i ≠ compoundId)
    (hj : i ≠ journalId) (hq : (w.st.src i).state = .quiet) (hd : ∀ cause, w.st.decision i ≠ .lockdown cause)
    (hr : (w.st.src i).reactWhen = .atLatch) (d : Word) :
    (occurAll i d w).st.bound (setOf (w.st.src i).reactionSet.toNat) i := by
  have hset : (w.st.src i).reactionSet ≠ 0 := hw.names_set (by rw [hq]; decide) (by rw [hr]; decide)
  cases hdec : w.st.decision i with
  | normal => exact (occurAll_latched hw hl hq hi hj hdec d).binds hr hset
  | compound =>
    obtain ⟨top, rest, hs⟩ := stack_of_compound hdec
    refine (bound_tick _ i).engine.drain ?_
    rw [occur_quiet hl hq, firstLatch_compound hdec]
    exact compoundLatch_bound hs (absorbs_binds hset hr d top.source)
  | lockdown cause => exact absurd hdec (hd cause)

/-! ## The decision in the words of the classes -/

theorem decision_compound_iff {s : State} {i : SourceId} : s.decision i = .compound ↔
    (s.src i).cls = .fault ∧ s.compoundEnable = true ∧ (s.severity = 1 ∨ s.severity = 2) := by
  constructor
  · intro h
    obtain ⟨hc, hs, he⟩ := decision_compound h
    exact ⟨hc, he, hs⟩
  · rintro ⟨hc, he, hs⟩
    rw [decision_fault hc, if_neg (by omega), if_pos hs, if_pos he]

theorem decision_lockdown_iff {s : State} (h : s.Sound) {i : SourceId} {cause : BitVec 4} :
    s.decision i = .lockdown cause ↔
      ((s.src i).cls = .critical ∧ s.severity = 2 ∧ cause = 1) ∨ ((s.src i).cls = .fault ∧ s.severity = 3 ∧ cause = 2)
      ∨ ((s.src i).cls = .critical ∧ s.severity = 3 ∧ cause = 3) := by
  have hle := severity_le h
  rw [State.decision]
  generalize (s.src i).cls = c
  generalize s.compoundEnable = enable
  generalize s.severity = n at hle
  match n, hle with
  | 0, _ | 1, _ | 2, _ | 3, _ => cases c <;> cases enable <;> simp [escalate, eq_comm]

/-! ## The line's source after the tick -/

section
variable {s : State} {lines : BitVec 24} {readback : Word} {k : LineId}

theorem lineSource_ne_journal (k : LineId) : lineSource k ≠ journalId := lineSource_ne (by decide) k

theorem BeforeLine.tick {w : Work} (h : BeforeLine s lines readback k w) : w.st.tc.count = s.tc.count + 1 :=
  congrArg TickUnit.count h.frame.tc

/-- The decision on the line's source before it, where the stack is as it was. -/
theorem BeforeLine.decision {w : Work} (h : BeforeLine s lines readback k w) (hv : w.st.svc = s.svc) :
    w.st.decision (lineSource k) = s.decision (lineSource k) := by
  have hsev : w.st.severity = s.severity := severity_congr (by rw [hv]) fun i => (h.frame.words i).1
  have hregs : w.st.regs = s.regs := h.frame.regs
  rw [State.decision, State.decision, h.source, hsev, State.compoundEnable, State.compoundEnable, hregs]

/-- A line's occurrence that does not lock the node down is weighed as the stack stood before the tick, or is a Notice
(R114). -/
theorem BeforeLine.decision_iff {w : Work} (h : BeforeLine s lines readback k w)
    (hq : (s.src (lineSource k)).state = .quiet) (hn : ∀ cause, w.st.decision (lineSource k) ≠ .lockdown cause) :
    w.st.decision (lineSource k) = .compound ↔ s.decision (lineSource k) = .compound := by
  rcases h.stack with hv | hc
  · rw [h.decision hv]
  · have h3 := severity_of_compoundTop h.sound hc
    have hne := h.sound.cls_ne_compound (i := lineSource k) (by rw [h.source, hq]; decide) (lineSource_ne_compound k)
    have hcls : (s.src (lineSource k)).cls = .notice := by
      rw [← h.source]
      cases hcl : (w.st.src (lineSource k)).cls with
      | notice => rfl
      | fault => exact absurd ((decision_lockdown_iff h.sound).mpr (.inr (.inl ⟨hcl, h3, rfl⟩))) (hn 2)
      | critical => exact absurd ((decision_lockdown_iff h.sound).mpr (.inr (.inr ⟨hcl, h3, rfl⟩))) (hn 3)
      | compound => exact absurd hcl hne
    rw [decision_notice hcls, decision_notice (h.source ▸ hcls)]

variable {w v : Work} {u : State} (h : LineTick s lines readback k w v u)
include h

theorem LineTick.live (hu : u.mc.mode = .running) : w.live = true := by
  cases hl : w.live with
  | true => rfl
  | false =>
    have hv := h.silent (.inl hl)
    rw [h.after.dead (hv ▸ hl), hv, ← live_iff, hl] at hu
    cases hu

/-- A line does nothing where it has no occurrence or the happening was abandoned (R94). -/
theorem LineTick.same (ho : ¬(w.live = true ∧ s.occurs lines k)) : v = w := by
  refine h.silent ?_
  by_cases hl : w.live = true
  · exact .inr fun hoc => ho ⟨hl, hoc⟩
  · exact .inl (Bool.eq_false_iff.mpr hl)

/-- A Quiet source with no occurrence stays as it was (R63). -/
theorem LineTick.quiet (hq : (s.src (lineSource k)).state = .quiet) (ho : ¬s.occurs lines k) :
    u.src (lineSource k) = s.src (lineSource k) := by
  have hm := h.after.source
  rw [h.silent (.inr ho), h.before.source] at hm
  exact hm.same (by rw [hq]; decide) (by rw [hq]; decide)

/-- A Pending or Absorbed source counts its occurrence (R84). -/
theorem LineTick.counts (hs : (s.src (lineSource k)).state = .pending ∨ (s.src (lineSource k)).state = .absorbed) :
    (u.src (lineSource k)).state = (s.src (lineSource k)).state
    ∧ (u.src (lineSource k)).latch = (s.src (lineSource k)).latch
    ∧ (¬s.occurs lines k → (u.src (lineSource k)).count = (s.src (lineSource k)).count
        ∧ (u.src (lineSource k)).detail = (s.src (lineSource k)).detail)
    ∧ (s.occurs lines k → u.mc.mode = .running →
        (u.src (lineSource k)).count = BitVec.ofNat 8 (min 255 ((s.src (lineSource k)).count.toNat + 1))
        ∧ s.showsLevel lines k (u.src (lineSource k)).detail) := by
  have hm := h.after.source.block
  by_cases ho : w.live = true ∧ s.occurs lines k
  · obtain ⟨d, hd, rfl⟩ := h.speaks ho.1 ho.2
    rw [src_occurAll_counts h.before.sound ho.1 (lineSource_ne_compound k) (lineSource_ne_journal k) d
      (by rw [h.before.source]; exact hs), h.before.source] at hm
    rw [hm]
    exact ⟨rfl, rfl, fun hn => absurd ho.2 hn, fun _ _ => ⟨satInc_eq _, hd⟩⟩
  · rw [h.same ho, h.before.source] at hm
    rw [hm]
    exact ⟨rfl, rfl, fun _ => ⟨rfl, rfl⟩, fun hoc hu => absurd ⟨h.live hu, hoc⟩ ho⟩

/-- A Serving source keeps its occurrence back if it repeats, and discards it if it does not (R85). -/
theorem LineTick.serves (hs : (s.src (lineSource k)).state = .serving) :
    (u.src (lineSource k)).state = .serving
    ∧ (u.src (lineSource k)).count = (s.src (lineSource k)).count
    ∧ (¬s.occurs lines k ∨ (s.src (lineSource k)).repeats = false →
        (u.src (lineSource k)).repeatCount = (s.src (lineSource k)).repeatCount
        ∧ (u.src (lineSource k)).detail = (s.src (lineSource k)).detail)
    ∧ (s.occurs lines k → (s.src (lineSource k)).repeats = true → u.mc.mode = .running →
        (u.src (lineSource k)).repeatCount = BitVec.ofNat 8 (min 255 ((s.src (lineSource k)).repeatCount.toNat + 1))
        ∧ s.showsLevel lines k (u.src (lineSource k)).detail) := by
  have hm := h.after.source.block
  have hs' : (w.st.src (lineSource k)).state = .serving := by rw [h.before.source]; exact hs
  by_cases ho : w.live = true ∧ s.occurs lines k
  · obtain ⟨d, hd, rfl⟩ := h.speaks ho.1 ho.2
    cases hr : (s.src (lineSource k)).repeats with
    | true =>
      rw [src_occurAll_repeats h.before.sound ho.1 (lineSource_ne_compound k) (lineSource_ne_journal k) d hs'
        (by rw [h.before.source]; exact hr), h.before.source] at hm
      rw [hm]
      exact ⟨hs, rfl, fun hn => (hn.elim (absurd ho.2) nofun), fun _ _ _ => ⟨satInc_eq _, hd⟩⟩
    | false =>
      rw [src_occurAll_discards h.before.sound ho.1 (lineSource_ne_compound k) (lineSource_ne_journal k) d hs'
        (by rw [h.before.source]; exact hr), h.before.source] at hm
      rw [hm]
      exact ⟨hs, rfl, fun _ => ⟨rfl, rfl⟩, fun _ => nofun⟩
  · rw [h.same ho, h.before.source] at hm
    rw [hm]
    exact ⟨hs, rfl, fun _ => ⟨rfl, rfl⟩, fun hoc _ hu => absurd ⟨h.live hu, hoc⟩ ho⟩

end

end Sys2Proof.Machine
end

section
/-! PROOFS. The first latch of a line's source at a tick in Running (O49). -/

namespace Sys2Proof.Machine

-- one proof after another: each thread that elaborates costs the check a GiB of its memory limit
set_option Elab.async false

section
variable {s : State} {lines : BitVec 24} {readback : Word} {k : LineId} {w v : Work} {u : State}
  (h : LineTick s lines readback k w v u)
include h

/-- A Quiet line's source whose occurrence does not lock the node down latches (R82, R115). -/
theorem LineTick.latches (hq : (s.src (lineSource k)).state = .quiet) (ho : s.occurs lines k) (hl : w.live = true)
    (hn : ∀ cause, w.st.decision (lineSource k) ≠ .lockdown cause) :
    ∃ d, s.showsLevel lines k d
      ∧ (s.decision (lineSource k) = .compound → LatchedAs w.st (lineSource k) d .absorbed (u.src (lineSource k)))
      ∧ (s.decision (lineSource k) ≠ .compound → LatchedAs w.st (lineSource k) d .pending (u.src (lineSource k))) := by
  have hiff := h.before.decision_iff hq hn
  obtain ⟨d, hd, rfl⟩ := h.speaks hl ho
  have hq' : (w.st.src (lineSource k)).state = .quiet := by rw [h.before.source]; exact hq
  have hi := lineSource_ne_compound k
  have hj := lineSource_ne_journal k
  refine ⟨d, hd, fun hc => ?_, fun hc => ?_⟩
  · exact (latchedAs_compound h.before.sound hl hi hj d hq' (hiff.mpr hc)).marks h.after.source
  · have hdec : w.st.decision (lineSource k) = .normal := by
      cases hdec : w.st.decision (lineSource k) with
      | normal => rfl
      | compound => exact absurd (hiff.mp hdec) hc
      | lockdown cause => exact absurd hdec (hn cause)
    exact (latchedAs_normal h.before.sound hl hi hj d hq' hdec).marks h.after.source

/-- An occurrence that locks the node down ends the tick's happening (R94). -/
theorem LineTick.locked (hq : (s.src (lineSource k)).state = .quiet) (ho : s.occurs lines k) (hl : w.live = true)
    {cause : BitVec 4} (hd : w.st.decision (lineSource k) = .lockdown cause) :
    LockedFrom w.st cause (lineSource k) (w.st.stackField 0) u := by
  obtain ⟨d, -, rfl⟩ := h.speaks hl ho
  have hv := occurAll_locked h.before.sound hl (by rw [h.before.source]; exact hq) hd d
  rw [h.after.dead (not_live_of_lockdown hv.mode)]
  exact hv

/-- While the mode stays Running, no line locks the node down. -/
theorem LineTick.not_lockdown (hq : (s.src (lineSource k)).state = .quiet) (ho : s.occurs lines k)
    (hu : u.mc.mode = .running) (cause : BitVec 4) : w.st.decision (lineSource k) ≠ .lockdown cause := by
  intro hd
  have := (h.locked hq ho (h.live hu) hd).mode
  rw [hu] at this
  cases this

/-- While the mode stays Running, a Quiet source with an occurrence is Absorbed or Pending in a later position than every
line before it (R65, R82, R83, R115). -/
theorem LineTick.latched (hq : (s.src (lineSource k)).state = .quiet) (ho : s.occurs lines k)
    (hu : u.mc.mode = .running) :
    (s.decision (lineSource k) = .compound → (u.src (lineSource k)).state = .absorbed)
    ∧ (s.decision (lineSource k) ≠ .compound → (u.src (lineSource k)).state = .pending)
    ∧ (u.src (lineSource k)).count = 1
    ∧ s.showsLevel lines k (u.src (lineSource k)).detail
    ∧ (∃ l, (u.src (lineSource k)).latch = some l ∧ s.arb.nextPosition ≤ l.position ∧ l.tick = s.tc.count + 1)
    ∧ ∀ (j : LineId) (l m : Latch), j < k → (u.src (lineSource j)).latch = some l →
        (u.src (lineSource k)).latch = some m → l.position < m.position := by
  obtain ⟨d, hd, hcomp, hnorm⟩ := h.latches hq ho (h.live hu) (h.not_lockdown hq ho hu)
  have hlatched : ∃ st, LatchedAs w.st (lineSource k) d st (u.src (lineSource k)) := by
    by_cases hc : s.decision (lineSource k) = .compound
    · exact ⟨_, hcomp hc⟩
    · exact ⟨_, hnorm hc⟩
  obtain ⟨st, hx⟩ := hlatched
  refine ⟨fun hc => (hcomp hc).state, fun hc => (hnorm hc).state, hx.count, hx.detail ▸ hd,
    ⟨_, hx.latch, h.before.position, h.before.tick⟩, fun j l m hj hl hm => ?_⟩
  have hlatch := (h.earlier j hj).block
  rw [hlatch] at hl
  rw [hx.latch] at hm
  cases hm
  exact h.before.sound.valid.events.positions _ _ hl

end

/-! ## The first occurrence -/

section
variable {s : State} {lines : BitVec 24} {readback : Word} {k : LineId} {v : Work} {u : State}

theorem decision_sampledTick (s : State) (lines : BitVec 24) (readback : Word) (i : SourceId) :
    (sampledTick lines readback s).decision i = s.decision i := rfl

variable (hs : s.Sound) (h : LineTick s lines readback k (begin (sampledTick lines readback s)) v u)
  (hq : (s.src (lineSource k)).state = .quiet) (ho : s.occurs lines k)
  (hl : (begin (sampledTick lines readback s)).live = true)
include h hq ho hl

/-- The first latch with the normal outcome (R82). -/
theorem LineTick.normal (hd : s.decision (lineSource k) = .normal) :
    ∃ d, s.showsLevel lines k d
      ∧ LatchedAs (sampledTick lines readback s) (lineSource k) d .pending (u.src (lineSource k))
      ∧ (lineSource k ∉ s.waitingSources → (u.src (lineSource k)).expired = false)
      ∧ lineSource k ∈ u.arb.waiting.map (·.source)
      ∧ ((s.src (lineSource k)).selfMasks = true → u.masked (lineSource k) = true) := by
  obtain ⟨d, hshows, rfl⟩ := h.speaks hl ho
  have hi := lineSource_ne_compound k
  have hj := lineSource_ne_journal k
  have hx := occurAll_latched h.before.sound hl (i := lineSource k) hq hi hj hd d
  have hy := (latchedAs_normal h.before.sound hl hi hj d hq hd).marks h.after.source
  refine ⟨d, hshows, hy, fun hw => ?_, (h.after.sound.valid.events.pending _).mp hy.state, fun hm => ?_⟩
  · rw [h.after.expired hw, hx.source]
    rfl
  · rw [h.after.masked, (hx.journal.other _ hj).2, masked_latches, begin_st, decide_eq_true rfl, Bool.true_and]
    exact (congrArg _ hm).trans (Bool.or_true _)

/-- The first latch with the compound outcome (R115 to R118, R123). -/
theorem LineTick.compound (hd : s.decision (lineSource k) = .compound) :
    ∃ d, s.showsLevel lines k d
      ∧ LatchedAs (sampledTick lines readback s) (lineSource k) d .absorbed (u.src (lineSource k))
      ∧ lineSource k ∉ u.arb.waiting.map (·.source)
      ∧ u.masked (lineSource k) = s.masked (lineSource k)
      ∧ (s.svc.stack.length < Config.stackLimit → u.svc = { s.svc with
          stack := { source := compoundId, announced := false, deadline := (s.src compoundId).freshServiceDeadline }
            :: s.svc.stack
          comprec0 := (s.stackField 0).zeroExtend 8 ++ (sourceBits (lineSource k)).zeroExtend 8
          comprec1 := (s.tc.count + 1).extractLsb' 0 16 })
      ∧ (s.svc.stack.length = Config.stackLimit → u.mc.mode = .lockdown ∧ u.svc = s.svc
        ∧ u.mc.lockrec = 4#4 ++ 0#2 ++ sourceBits (lineSource k) ++ s.stackField 0) := by
  obtain ⟨d, hshows, rfl⟩ := h.speaks hl ho
  have hi := lineSource_ne_compound k
  have hj := lineSource_ne_journal k
  obtain ⟨top, rest, hst⟩ := stack_of_compound hd
  have hfield := stackField_top hst
  have hy := (latchedAs_compound h.before.sound hl hi hj d hq hd).marks h.after.source
  have hwait : lineSource k ∉ u.arb.waiting.map (·.source) := fun hm => by
    have hp := h.after.sound.pending_of_mem hm
    rw [hy.state] at hp
    cases hp
  refine ⟨d, hshows, hy, hwait, ?_⟩
  by_cases hlen : s.svc.stack.length < Config.stackLimit
  · have hx := occurAll_escalated h.before.sound hl (i := lineSource k) hq hi hj hd hst hlen d
    refine ⟨h.after.masked.trans hx.masked, fun _ => ?_, fun h4 => absurd h4 hlen.ne⟩
    have hpushed := h.after.pushed _ _ (congrArg ServiceUnit.stack hx.svc) rfl (by
      rw [hx.svc]
      exact Nat.succ_ne_self _)
    rw [hpushed, hx.svc, hfield]
    rfl
  · have hx := occurAll_overfull hl (i := lineSource k) hq hd hst hlen d
    refine ⟨h.after.masked.trans hx.masked, fun g => absurd g hlen, fun _ => ?_⟩
    rw [h.after.dead (not_live_of_lockdown hx.mode), hfield]
    exact ⟨hx.mode, hx.svc, hx.lockrec⟩

/-- The reaction at the first latch (R141). -/
theorem LineTick.binds (hn : ∀ cause, s.decision (lineSource k) ≠ .lockdown cause)
    (hr : (s.src (lineSource k)).reactWhen = .atLatch) :
    u.bound (setOf (s.src (lineSource k)).reactionSet.toNat) (lineSource k) := by
  obtain ⟨d, -, rfl⟩ := h.speaks hl ho
  exact h.after.bound _ (occurAll_binds h.before.sound hl (i := lineSource k) (lineSource_ne_compound k)
    (lineSource_ne_journal k) hq hn hr d)

end

/-- Settles O49. -/
theorem tickLatchesLineSources : Obligations.TickLatchesLineSources := by
  unfold Obligations.TickLatchesLineSources
  dsimp only
  intro s lines readback hleg hh hi hp hm hstarted
  have hs := hleg.sound
  have hlive : (begin (sampledTick lines readback s)).live = true := (live_iff _).mpr hm
  refine ⟨endHappening (afterLines s lines (List.finRange 24) (begin (sampledTick lines readback s))), ?_, fun k => ?_⟩
  · rw [exec_scanTick hh hi hp, tickHappening_of_running hm]
    rfl
  obtain ⟨w, v, hk⟩ := lineTick (lines := lines) (readback := readback) hs hstarted k
  generalize afterLines s lines (List.finRange 24) (begin (sampledTick lines readback s)) = u at hk
  refine ⟨hk.quiet, hk.counts, hk.serves, fun hq ho hu => ?_, fun hq ho hfirst => ?_⟩
  · obtain ⟨hcomp, hnorm, hcount, hlevel, hlatch, hlater⟩ := hk.latched hq ho hu
    exact ⟨fun g => hcomp (decision_compound_iff.mpr g), fun g => hnorm (mt decision_compound_iff.mp g), hcount, hlevel,
      hlatch, fun j l m hj _ _ => hlater j l m hj⟩
  · obtain rfl := hk.before.first hfirst
    have hwait : lineSource k ∉ s.waitingSources := fun g => by
      have := hs.pending_of_mem g
      rw [hq] at this
      cases this
    refine ⟨fun hc hn => ?_, fun hc => ?_, fun hn hr => ?_, fun cause hc => ?_⟩
    · have hd : s.decision (lineSource k) = .normal := by
        cases hd : s.decision (lineSource k) with
        | normal => rfl
        | compound => exact absurd (decision_compound_iff.mp hd) hc
        | lockdown cause => exact absurd ((decision_lockdown_iff hs).mp hd) (hn cause)
      obtain ⟨d, hshows, hx, hexp, hmem, hmask⟩ := hk.normal hq ho hlive hd
      exact ⟨hx.state, hx.count, hx.detail ▸ hshows, hx.latch, hexp hwait, hx.words.1, hx.words.2.1, hx.words.2.2, hmem,
        hmask⟩
    · obtain ⟨d, hshows, hx, hmem, hmask, hpush, hfull⟩ :=
        hk.compound hq ho hlive (decision_compound_iff.mpr hc)
      refine ⟨hx.state, hx.count, hx.detail ▸ hshows, hx.latch, hx.words.1, hx.words.2.1, hx.words.2.2, hmem, hmask,
        fun hlen => ?_, hfull⟩
      have hsvc := hpush hlen
      exact ⟨congrArg ServiceUnit.stack hsvc, congrArg ServiceUnit.comprec0 hsvc, congrArg ServiceUnit.comprec1 hsvc⟩
    · exact hk.binds hq ho hlive (fun cause hd => hn cause ((decision_lockdown_iff hs).mp hd)) hr
    · have hx := hk.locked hq ho hlive ((decision_lockdown_iff hs).mpr hc)
      refine ⟨hx.mode, hx.lockrec, hx.locktick, hx.srcs, congrArg (·.waiting) hx.arb, hx.svc, hx.dl,
        congrArg (·.sets) hx.act, (endHappening_locked hx.mode).2.trans (congrArg (·.safe) hx.act)⟩

end Sys2Proof.Machine
end

section
/-! PROOFS. What a Hold places, and what the Write that follows finds (O18). -/

namespace Sys2Proof.Machine

-- one proof after another: each thread that elaborates costs the check a GiB of its memory limit
set_option Elab.async false

/-! ## States without a hold -/

/-- No hold is placed. -/
def State.holdFree (s : State) : Prop := s.link.hold = none

theorem State.holdFree.of_hold {s t : State} (h : s.holdFree) (hl : t.link.hold = s.link.hold) : t.holdFree := hl.trans h

/-- A step of a tick marks a hold, and places none (R35). -/
theorem holdFree_tick : TickKeeps State.holdFree where
  engine :=
    { journal := fun _ _ _ _ h => h.of_hold rfl
      bind := fun _ _ _ h => h.of_hold rfl
      lock := fun _ _ _ h => h.of_hold rfl
      mask := fun s i h => by
        unfold selfMask
        split
        · exact h
        · rw [State.holdFree, markHold_eq]
          exact congrArg (Option.map _) h
      latch := fun s i d _ _ _ h => by
        rw [latchState_eq]
        exact h.of_hold rfl
      push := fun _ _ _ _ _ _ _ _ _ _ _ h => h.of_hold rfl
      full := fun _ _ _ _ _ _ _ _ h => h.of_hold rfl
      count := fun _ _ _ _ _ _ h => h.of_hold rfl
      again := fun _ _ _ _ _ _ h => h }
  compare := fun s h => by
    rw [compareReadback_checked]
    exact congrArg (Option.map _) h
  top := fun _ _ h => h.of_hold rfl
  overrun := fun _ _ h => h.of_hold rfl
  entry := fun _ _ _ h => h.of_hold rfl
  expired := fun _ _ h => h.of_hold rfl
  watchdog := fun _ _ h => h.of_hold rfl

theorem settleCompleted_link (i : SourceId) (s : State) : (settleCompleted i s).link = s.link := by
  unfold settleCompleted
  split
  · unfold releaseAbsorbed
    dsimp only
    split <;> simp
  · split <;> simp [relatch]

/-- The end of a happening places no hold. -/
theorem holdFree_finish {w : Work} (h : w.st.holdFree) : (finish w).holdFree :=
  State.holdFree.of_hold (holdFree_tick.engine.drain h) rfl

/-- A Write places no hold (R34). -/
theorem holdFree_write : WriteKeeps State.holdFree where
  tick := holdFree_tick
  refuse := fun _ _ _ h => h.of_hold rfl
  put := fun s r data _ h => by cases r <;> exact h.of_hold rfl
  arm := fun s data _ h => by
    unfold armSource
    split <;> exact h.of_hold rfl
  disarm := fun s data _ h => by
    unfold disarmSource
    split <;> exact h.of_hold rfl
  complete := fun s data _ h => h.of_hold (congrArg LinkUnit.hold (settleCompleted_link _ _))
  release := fun _ _ h => h.of_hold rfl
  start := fun _ _ h => h.of_hold rfl
  stop := fun _ _ _ _ h => h.of_hold rfl
  recover := fun _ _ h => h.of_hold rfl
  reinit := fun _ _ h => h.of_hold rfl
  sealing := fun _ h => h.of_hold rfl
  taken := fun _ _ _ h => h.of_hold rfl

/-! ## A frame without its hold -/

section
variable (s : State)

theorem heard_endHold (dest : Dest) : (endHold s).heard dest = endHold (s.heard dest) := by
  have hh : (endHold s).hears dest = s.hears dest := by cases dest <;> rfl
  unfold State.heard
  rw [hh]
  cases destDirected dest && s.hears dest <;> rfl

/-- A rejection ends the hold first (R14). -/
theorem rejectFrame_endHold (cause : FrameOutcome) (tag : BitVec 4) (index : Byte) :
    rejectFrame cause tag index (endHold s) = rejectFrame cause tag index s := rfl

theorem holdBroken_endHold (r : Request) : (endHold s).holdBroken r = false := rfl

/-- A hold that is not broken ends without a trace (R34, R35). -/
theorem admitFrame_endHold {s : State} {r : Request} (h : s.holdBroken r = false) (reg : Reg) :
    admitFrame r reg (endHold s) = admitFrame r reg s := by
  have hx (w : Work) : executeRequest (endHold s) r reg w = executeRequest s r reg w := by
    unfold executeRequest
    rw [h, holdBroken_endHold]
  rw [admitFrame_eq, admitFrame_eq, hx]
  rfl

end

/-! ## The outcome of an executed Write -/

theorem doAction_outcome (code : Word) (w : Work) : (doAction code w).2.outcome ≠ .holdBroken := by
  unfold doAction doJournalTake
  repeat' split
  all_goals exact nofun

theorem executeWrite_outcome (index : Byte) (r : Reg) (data : Word) (w : Work) :
    (executeWrite index r data w).2.outcome ≠ .holdBroken := by
  unfold executeWrite
  split
  · exact nofun
  · cases r with
    | action => exact doAction_outcome data w
    | _ => exact nofun

theorem prev_occur (i : SourceId) (d : Word) (w : Work) : (occur i d w).st.link.prev = w.st.link.prev := by
  rw [(frame_occur i d w).link]

theorem prev_finish (w : Work) : (finish w).link.prev = w.st.link.prev := by
  show (drain w).st.link.prev = _
  rw [(frame_drain w).link]

/-- The record that a rejection leaves (R14). -/
theorem prev_rejectFrame (cause : FrameOutcome) (tag : BitVec 4) (index : Byte) (s : State) :
    (rejectFrame cause tag index s).link.prev.outcome = cause := by
  rw [rejectFrame, prev_finish, prev_occur]
  rfl

theorem holdFree_rejectFrame (cause : FrameOutcome) (tag : BitVec 4) (index : Byte) (s : State) :
    (rejectFrame cause tag index s).holdFree :=
  holdFree_finish (holdFree_tick.engine.occur (w := (begin s).map (recordRejection cause tag index)) rfl
    (by decide) _)

theorem link_recordReply (r : Request) (reply : Reply) (s : State) :
    (recordReply r reply s).link = { s.link with
      prev := { outcome := reply.outcome, tag := r.tag, data := reply.data } } := by
  unfold recordReply
  dsimp only
  split <;> rfl

/-- An admitted Write that does not meet its hold broken leaves another outcome and no hold (R34, R35). -/
theorem admitFrame_write {s : State} {r : Request} (hop : opOf r.op = .write) (hb : s.holdBroken r = false) (reg : Reg) :
    (admitFrame r reg s).link.prev.outcome ≠ .holdBroken ∧ (admitFrame r reg s).holdFree := by
  have hx : executeRequest s r reg ((begin s).map endHold) =
      executeWrite r.index reg r.data ((begin s).map endHold) := by
    unfold executeRequest
    rw [hop, hb]
    rfl
  have hfree := holdFree_write.executeWrite (w := (begin s).map endHold) rfl r.index reg r.data
  have hout := executeWrite_outcome r.index reg r.data ((begin s).map endHold)
  rw [admitFrame_eq, hx]
  generalize executeWrite r.index reg r.data ((begin s).map endHold) = x at hfree hout
  have hrec : (x.1.map (recordReply r x.2)).st.holdFree := by
    rw [State.holdFree, map_st, link_recordReply]
    exact hfree
  unfold raiseOccurrence
  split
  · refine ⟨?_, holdFree_finish (holdFree_tick.engine.occur hrec (by decide) _)⟩
    rw [prev_finish, prev_occur, map_st, link_recordReply]
    exact hout
  · refine ⟨?_, holdFree_finish hrec⟩
    rw [prev_finish, map_st, link_recordReply]
    exact hout

/-! ## The Write that follows a Hold -/

/-- The record of a Hold, whose execution has placed the hold (R21, R34). -/
theorem recordReply_placed (s : State) (dest : Dest) (op : FrameOp) (index : Byte) (data : Word) (tag : BitVec 4)
    (reply : Reply) (h : HoldRecord) :
    recordReply (request dest op index data tag) reply
      { endHold s with link := { (endHold s).link with hold := some h } } =
      { s.replied dest reply.outcome tag reply.data with
        link := { (s.replied dest reply.outcome tag reply.data).link with hold := some h } } := by
  unfold recordReply State.replied
  rw [isDirected_request]
  by_cases hd : (destDirected dest && s.mc.mode == .running) = true
  · rw [if_pos hd]
    exact if_pos hd
  · rw [if_neg hd]
    exact if_neg hd

section
variable {s : State} {dest : Dest} {index : Byte} {data : Word} (tag : BitVec 4) (hi : s.linkIdle)
  (hh : s.hears dest = true)
include hi hh

/-- The Hold of a register (R34). -/
theorem sendRequest_hold {r : Reg} (hd : destDirected dest = true) (hr : regAt index = some r)
    (ha : holdable r = true) :
    sendRequest dest .hold index data tag s =
      { s.after dest .done tag (readReg s r) id with
        link := { (s.after dest .done tag (readReg s r) id).link with
          hold := some { index := index, changed := false } } } := by
  have hraise : r ≠ .raise := by
    rintro rfl
    cases ha
  have hval := readReg_endHold_heard r s dest
  rw [sendRequest_heard (op := .hold) tag hi hh (.inl hd) nofun]
  simp only [reduceCtorEq, if_false, targetOf_hold hr (of_decide_eq_true ha)]
  have hx : executeRequest (s.heard dest) (request dest .hold index data tag) r ((begin (s.heard dest)).map endHold) =
      (((begin (s.heard dest)).map endHold).map
        (fun s => { s with link := { s.link with hold := some { index := index, changed := false } } }),
        ⟨.done, readReg s r⟩) := by
    simp only [executeRequest, request_op, opOf_opCode, request_index, ← hval]
    rfl
  rw [admitFrame_of_update hx (fun h => absurd h hraise)]
  exact congrArg endHappening (recordReply_placed _ _ _ _ _ _ _ _)

/-- The directed Write that meets its hold broken (R35). -/
theorem sendRequest_write_broken {r : Reg} (hb : s.brokenFor dest index = true) (hr : regAt index = some r)
    (ha : r.access = .readWrite) :
    sendRequest dest .write index data tag s = s.after dest .holdBroken tag (readReg s r) id := by
  have hval := readReg_endHold_heard r s dest
  have hraise : r ≠ .raise := by
    rintro rfl
    cases ha
  have hx : executeRequest (s.heard dest) (request dest .write index data tag) r ((begin (s.heard dest)).map endHold) =
      (((begin (s.heard dest)).map endHold).map id, ⟨.holdBroken, readReg s r⟩) := by
    simp only [executeRequest, request_op, opOf_opCode, holdBroken_request, brokenFor_heard, hb, if_true, ← hval]
    rfl
  rw [sendRequest_heard tag hi hh (.inr rfl) nofun]
  simp only [reduceCtorEq, if_false, targetOf_write hr (by rw [ha]; decide)]
  rw [admitFrame_of_update hx (fun h => absurd h hraise)]
  exact congrArg endHappening (recordReply_request _ _ _ _ _ _ _)

/-- Any other Write goes on as without the hold, which ends (R34, R35). -/
theorem sendRequest_write_unbroken (hb : s.brokenFor dest index = false) :
    sendRequest dest .write index data tag s = sendRequest dest .write index data tag (endHold s)
    ∧ (sendRequest dest .write index data tag s).link.prev.outcome ≠ .holdBroken
    ∧ (sendRequest dest .write index data tag s).holdFree := by
  have hb' : (s.heard dest).holdBroken (request dest .write index data tag) = false := by
    rw [holdBroken_request, brokenFor_heard, hb]
  rw [sendRequest_heard (s := endHold s) tag hi hh (.inr rfl) nofun, sendRequest_heard tag hi hh (.inr rfl) nofun,
    heard_endHold]
  simp only [reduceCtorEq, if_false]
  split
  · exact ⟨(rejectFrame_endHold _ _ _ _).symm, by rw [prev_rejectFrame]; decide, holdFree_rejectFrame _ _ _ _⟩
  · have hop : opOf (request dest .write index data tag).op = .write := by rw [request_op, opOf_opCode]
    exact ⟨(admitFrame_endHold hb' _).symm, admitFrame_write hop hb' _⟩

end

end Sys2Proof.Machine
end

section
/-! PROOFS. What a tick and the expiries make of a hold (O18). -/

namespace Sys2Proof.Machine

-- one proof after another: each thread that elaborates costs the check a GiB of its memory limit
set_option Elab.async false

/-! ## The values that break a hold -/

/-- The register at this index is one that hardware changes, and its value differs in the two states (R35). -/
def State.showsOther (s t : State) (n : Byte) : Bool :=
  (n == 0x0A && readReg t .maskLo != readReg s .maskLo) || (n == 0x0B && readReg t .maskHi != readReg s .maskHi)
  || (n == 0x27 && readReg t .mismatchdet != readReg s .mismatchdet)

/-- A hold follows the values that hardware changes: bits of the mask and of MISMATCHDET are only set, and the changed
flag says whether one of the held register was (R35). -/
structure HoldFollows (s t : State) : Prop where
  mask : s.srcs.mask ||| t.srcs.mask = t.srcs.mask
  det  : s.act.mismatchDet ||| t.act.mismatchDet = t.act.mismatchDet
  hold : t.link.hold = s.link.hold.map fun h => { h with changed := h.changed || s.showsOther t h.index }

theorem showsOther_congr {s t u : State} (hm : u.srcs.mask = t.srcs.mask) (hd : u.act.mismatchDet = t.act.mismatchDet)
    (n : Byte) : s.showsOther u n = s.showsOther t n := by
  simp only [State.showsOther, readReg, hm, hd]

theorem HoldFollows.refl (s : State) : HoldFollows s s := by
  refine ⟨BitVec.or_self, BitVec.or_self, ?_⟩
  have h (n : Byte) : s.showsOther s n = false := by simp [State.showsOther]
  simp only [h, Bool.or_false]
  exact (Option.map_id' ..).symm

/-- An update that leaves the mask, MISMATCHDET and the hold. -/
theorem HoldFollows.of_same {s t u : State} (h : HoldFollows s t) (hm : u.srcs.mask = t.srcs.mask)
    (hd : u.act.mismatchDet = t.act.mismatchDet) (hl : u.link.hold = t.link.hold) : HoldFollows s u := by
  refine ⟨by rw [hm]; exact h.mask, by rw [hd]; exact h.det, ?_⟩
  simp only [hl, h.hold, showsOther_congr hm hd]

/-- An update that changes one of the registers and marks a hold on it. -/
theorem HoldFollows.of_marked {s t u : State} (h : HoldFollows s t) (hm : t.srcs.mask ||| u.srcs.mask = u.srcs.mask)
    (hd : t.act.mismatchDet ||| u.act.mismatchDet = u.act.mismatchDet) {n : Byte} {b : Bool}
    (hl : u.link.hold = t.link.hold.map (markedHold n b))
    (ho : ∀ m, s.showsOther u m = (s.showsOther t m || (m == n && b))) : HoldFollows s u := by
  refine ⟨?_, ?_, ?_⟩
  · rw [← hm, ← BitVec.or_assoc, h.mask]
  · rw [← hd, ← BitVec.or_assoc, h.det]
  · rw [hl, h.hold, Option.map_map]
    refine congrArg (s.link.hold.map ·) (funext fun r => ?_)
    simp only [Function.comp, markedHold, ho, Bool.or_assoc]

/-! ## Bits that are set -/

/-- A bit that is set changes the half of the mask in which it stands. -/
theorem half_setBit {m₀ m : BitVec 32} (h : m₀ ||| m = m) {i : SourceId} (hi : m.getLsbD i.val = false) (start : Nat) :
    ((setBit m i.val).extractLsb' start 16 != m₀.extractLsb' start 16) =
      ((m.extractLsb' start 16 != m₀.extractLsb' start 16) || decide (start ≤ i.val ∧ i.val < start + 16)) := by
  by_cases hin : start ≤ i.val ∧ i.val < start + 16
  · rw [decide_eq_true hin, Bool.or_true, bne_iff_ne]
    intro he
    have hold : m₀.getLsbD i.val = false := by
      have hb := congrArg (·.getLsbD i.val) h
      simp only [BitVec.getLsbD_or, hi, Bool.or_false] at hb
      exact hb
    have hb := congrArg (·.getLsbD (i.val - start)) he
    simp only [BitVec.getLsbD_extractLsb', show start + (i.val - start) = i.val by omega, getLsbD_setBit, hold,
      show i.val - start < 16 by omega, decide_true, Bool.true_and, Bool.or_true] at hb
    cases hb
  · have he : (setBit m i.val).extractLsb' start 16 = m.extractLsb' start 16 := by
      refine BitVec.eq_of_getLsbD_eq fun k hk => ?_
      simp only [BitVec.getLsbD_extractLsb']
      by_cases hlt : start + k < 32
      · have hne : ¬i = ⟨start + k, hlt⟩ := by
          rintro rfl
          exact hin ⟨Nat.le_add_right .., by show start + k < _; omega⟩
        have := getLsbD_setBit m i ⟨start + k, hlt⟩
        rw [decide_eq_false hne, Bool.or_false] at this
        rw [this]
      · rw [BitVec.getLsbD_of_ge _ _ (by omega), BitVec.getLsbD_of_ge _ _ (by omega)]
    rw [he, decide_eq_false hin, Bool.or_false]

theorem or_setBit (m : BitVec 32) (i : Nat) : m ||| setBit m i = setBit m i := by
  rw [setBit, ← BitVec.or_assoc, BitVec.or_self]

/-- A word with more bits set differs from an earlier one where it differed, or where a bit was set. -/
theorem bne_or {d₀ d : Word} (h : d₀ ||| d = d) (j : Word) : ((d ||| j) != d₀) = ((d != d₀) || ((d ||| j) != d)) := by
  by_cases hj : d ||| j = d
  · simp [hj]
  · have hne : d ||| j ≠ d₀ := fun e => hj <| by
      calc d ||| j = d ||| j ||| d := by rw [BitVec.or_comm _ d, ← BitVec.or_assoc, BitVec.or_self]
        _ = d₀ ||| d := by rw [e]
        _ = d := h
    rw [bne_iff_ne.mpr hne, bne_iff_ne.mpr hj, Bool.or_true]

/-! ## Holds during the steps of a tick -/

theorem holdFollows_selfMask {s t : State} (h : HoldFollows s t) (i : SourceId) : HoldFollows s (selfMask i t) := by
  unfold selfMask
  split
  · exact h
  · next hm =>
    rw [markHold_eq_marked]
    refine h.of_marked (or_setBit _ _) BitVec.or_self rfl fun n => ?_
    have hlow := half_setBit h.mask (i := i) (Bool.eq_false_iff.mpr hm) 0
    have hhigh := half_setBit h.mask (i := i) (Bool.eq_false_iff.mpr hm) 16
    have hi := i.isLt
    by_cases hn : i.val < 16
    · rw [decide_eq_true (by omega)] at hlow
      rw [decide_eq_false (by omega)] at hhigh
      simp only [State.showsOther, readReg, hlow, hhigh, maskIndex, if_pos hn, Bool.or_true, Bool.or_false, Bool.and_true]
      cases (n == 0x0A) <;> simp
    · rw [decide_eq_false (by omega)] at hlow
      rw [decide_eq_true (by omega)] at hhigh
      simp only [State.showsOther, readReg, hlow, hhigh, maskIndex, if_neg hn, Bool.or_true, Bool.or_false, Bool.and_true]
      cases (n == 0x0B) <;> simp

theorem holdFollows_compare {s t : State} (h : HoldFollows s t) : HoldFollows s (compareReadback t) := by
  rw [compareReadback_checked]
  refine h.of_marked (BitVec.or_self (x := t.srcs.mask)) ?_ (n := 0x27) (b := t.detAfter != t.act.mismatchDet) rfl
    fun n => ?_
  · show t.act.mismatchDet ||| (t.act.mismatchDet ||| t.joining) = t.act.mismatchDet ||| t.joining
    rw [← BitVec.or_assoc, BitVec.or_self]
  · have hd := bne_or h.det t.joining
    simp only [State.showsOther, readReg, State.detAfter, hd]
    cases (n == 0x27) <;> simp [Bool.or_assoc]

theorem holdFollows_tick (s : State) : TickKeeps (HoldFollows s) where
  engine :=
    { journal := fun _ _ _ _ h => h.of_same rfl rfl rfl
      bind := fun _ _ _ h => h.of_same rfl rfl rfl
      lock := fun _ _ _ h => h.of_same rfl rfl rfl
      mask := fun _ i h => holdFollows_selfMask h i
      latch := fun s i d _ _ _ h => by
        rw [latchState_eq]
        exact h.of_same rfl rfl rfl
      push := fun _ _ _ _ _ _ _ _ _ _ _ h => h.of_same rfl rfl rfl
      full := fun _ _ _ _ _ _ _ _ h => h.of_same rfl rfl rfl
      count := fun _ _ _ _ _ _ h => h.of_same rfl rfl rfl
      again := fun _ _ _ _ _ _ h => h.of_same rfl rfl rfl }
  compare := fun _ h => holdFollows_compare h
  top := fun _ _ h => h.of_same rfl rfl rfl
  overrun := fun _ _ h => h.of_same rfl rfl rfl
  entry := fun _ _ _ h => h.of_same rfl rfl rfl
  expired := fun _ _ h => h.of_same rfl rfl rfl
  watchdog := fun _ _ h => h.of_same rfl rfl rfl

/-! ## The registers that can be held -/

/-- What a tick or an expiry leaves of the registers that can be held, and of a hold. -/
structure HoldStep (s t : State) : Prop where
  follows : HoldFollows s t
  regs    : t.regs = s.regs
  flags   : t.link.linkFault = s.link.linkFault ∧ t.link.linkCount = s.link.linkCount
  levels  : t.act.operate = s.act.operate ∧ t.act.safe = s.act.safe ∧ t.act.rbcheck = s.act.rbcheck
  filter  : t.jn.filter = s.jn.filter
  words   : ∀ i : SourceId, (t.src i).w0 = (s.src i).w0 ∧ (t.src i).w1 = (s.src i).w1 ∧ (t.src i).w2 = (s.src i).w2
  sets    : ∀ k : SetId, (t.set k).wordA = (s.set k).wordA ∧ (t.set k).wordB = (s.set k).wordB

theorem HoldStep.of_frame {s t : State} (h : HoldFollows s t) (g : TickFrame s t) : HoldStep s t :=
  ⟨h, g.regs, by rw [g.link]; exact ⟨rfl, rfl⟩, g.levels, g.filter, g.words, g.sets⟩

theorem HoldStep.refl (s : State) : HoldStep s s := .of_frame (.refl s) (.refl s)

/-- Another link unit with the same hold and rejection record, and another reset unit. -/
theorem HoldStep.relink {s t : State} (h : HoldStep s t) (l : LinkUnit) (r : ResetUnit) (hl : l.hold = t.link.hold)
    (hf : l.linkFault = t.link.linkFault ∧ l.linkCount = t.link.linkCount) : HoldStep s { t with link := l, rst := r } :=
  ⟨h.follows.of_same rfl rfl hl, h.regs, ⟨hf.1.trans h.flags.1, hf.2.trans h.flags.2⟩, h.levels, h.filter, h.words, h.sets⟩

/-- Of the registers that can be held only the mask registers and MISMATCHDET change (R35). -/
theorem HoldStep.readReg {s t : State} (h : HoldStep s t) {r : Reg} (ha : r.access = .readWrite) (hlo : r ≠ .maskLo)
    (hhi : r ≠ .maskHi) (hd : r ≠ .mismatchdet) : readReg t r = readReg s r := by
  cases r with
  | maskLo => exact absurd rfl hlo
  | maskHi => exact absurd rfl hhi
  | mismatchdet => exact absurd rfl hd
  | linkfault => exact congrArg (·.zeroExtend 16) h.flags.1
  | linkcount => exact congrArg (·.zeroExtend 16) h.flags.2
  | zones => exact congrArg (·.zones) h.regs
  | policy => exact congrArg (·.policy) h.regs
  | silwin => exact congrArg (·.silwin) h.regs
  | operate => exact h.levels.1
  | safe => exact h.levels.2.1
  | rbcheck => exact h.levels.2.2
  | jfilter => exact h.filter
  | react k wordB =>
    cases wordB
    · exact (h.sets k).1
    · exact (h.sets k).2
  | desc i w =>
    match w with
    | 0 => exact (h.words i).1
    | 1 => exact (h.words i).2.1
    | 2 => exact (h.words i).2.2
    | 3 => cases ha
  | _ => cases ha

/-- Where the registers that hardware changes stand (section 11.2). -/
theorem index_of_reg : ∀ n : Byte, (regAt n = some .maskLo ↔ n = 0x0A) ∧ (regAt n = some .maskHi ↔ n = 0x0B)
    ∧ (regAt n = some .mismatchdet ↔ n = 0x27) := by decide

/-- The changed flag is set exactly where the held register has another value (R35). -/
theorem HoldStep.showsOther {s t : State} (h : HoldStep s t) {n : Byte} {r : Reg} (hr : regAt n = some r)
    (ha : r.access = .readWrite) : s.showsOther t n = (Machine.readReg t r != Machine.readReg s r) := by
  obtain ⟨hlo, hhi, hdet⟩ := index_of_reg n
  rw [hr] at hlo hhi hdet
  by_cases h1 : r = .maskLo
  · subst h1
    rw [hlo.mp rfl]
    simp [State.showsOther]
  by_cases h2 : r = .maskHi
  · subst h2
    rw [hhi.mp rfl]
    simp [State.showsOther]
  by_cases h3 : r = .mismatchdet
  · subst h3
    rw [hdet.mp rfl]
    simp [State.showsOther]
  rw [h.readReg ha h1 h2 h3, bne_self_eq_false]
  have hn1 : (n == 0x0A) = false := beq_false_of_ne fun e => h1 (Option.some.inj (hlo.mpr e))
  have hn2 : (n == 0x0B) = false := beq_false_of_ne fun e => h2 (Option.some.inj (hhi.mpr e))
  have hn3 : (n == 0x27) = false := beq_false_of_ne fun e => h3 (Option.some.inj (hdet.mpr e))
  rw [State.showsOther, hn1, hn2, hn3]
  rfl

/-! ## Ticks and expiries -/

/-- What every step of a tick keeps of the registers and the hold. -/
def HoldFrame (s t : State) : Prop := HoldFollows s t ∧ TickFrame s t

theorem holdFrame_tick (s : State) : TickKeeps (HoldFrame s) := (holdFollows_tick s).and (tickFrame_tick s)

theorem HoldFrame.refl (s : State) : HoldFrame s s := ⟨.refl s, .refl s⟩

theorem HoldFrame.endHappening {s t : State} (h : HoldFrame s t) : HoldFrame s (endHappening t) :=
  ⟨h.1.of_same rfl rfl rfl, h.2.endHappening⟩

theorem HoldFrame.finish {s : State} {w : Work} (h : HoldFrame s w.st) : HoldFrame s (finish w) :=
  HoldFrame.endHappening ((holdFrame_tick s).engine.drain h)

theorem HoldFrame.step {s t : State} (h : HoldFrame s t) : HoldStep s t := .of_frame h.1 h.2

theorem holdFrame_tickHappening (s : State) (lines : BitVec 24) (readback : Word) :
    HoldFrame s (tickHappening lines readback s) :=
  (holdFrame_tick s).tickHappening
    ⟨(HoldFollows.refl s).of_same rfl rfl rfl, .of_units rfl rfl rfl rfl ⟨rfl, rfl, rfl⟩ rfl rfl rfl⟩
    fun _ h => h.endHappening

/-- The interval's count leaves the idle count of a frame in progress. -/
theorem countInterval_shifting (s : State) :
    ∃ l r, countInterval s = { s with link := l, rst := r } ∧ l.hold = s.link.hold
      ∧ (l.linkFault = s.link.linkFault ∧ l.linkCount = s.link.linkCount)
      ∧ (l.phase = .shifting → s.link.phase = .shifting ∧ l.idle = s.link.idle) := by
  unfold countInterval
  split
  · exact ⟨s.link, s.rst, rfl, rfl, ⟨rfl, rfl⟩, fun h => ⟨h, rfl⟩⟩
  split
  · unfold endInterval
    dsimp only
    split
    · exact ⟨_, _, rfl, rfl, ⟨rfl, rfl⟩, nofun⟩
    · exact ⟨s.link, _, rfl, rfl, ⟨rfl, rfl⟩, fun h => ⟨h, rfl⟩⟩
  · exact ⟨s.link, _, rfl, rfl, ⟨rfl, rfl⟩, fun h => ⟨h, rfl⟩⟩

/-- A tick that does not time a frame out (R5, R35). -/
theorem holdStep_scanTick {s : State} (hidle : s.link.phase = .shifting → s.link.idle < 19) (lines : BitVec 24)
    (readback : Word) : HoldStep s (scanTick lines readback s) := by
  unfold scanTick
  split
  · exact .refl s
  have hu := holdFrame_tickHappening s lines readback
  generalize tickHappening lines readback s = u at hu
  have hlink : u.link.phase = s.link.phase ∧ u.link.idle = s.link.idle := by
    rw [hu.2.link]
    exact ⟨rfl, rfl⟩
  obtain ⟨l, r, he, hhold, hflags, hshift⟩ := countInterval_shifting u
  have hv := hu.step.relink l r hhold hflags
  rw [he]
  unfold countIdle
  split
  · next hphase =>
    obtain ⟨hp, hidleu⟩ := hshift hphase
    have hlt := hidle (hlink.1 ▸ hp)
    have hn : ¬Config.idleLimit ≤ l.idle + 1 := by
      rw [hidleu, hlink.2, Config.idleLimit]
      omega
    dsimp only
    rw [if_neg hn]
    exact hv.relink _ r rfl ⟨rfl, rfl⟩
  · exact hv

/-- Every tick that does not time a frame out, and every expiry (R35). -/
theorem exec_holdStep {s : State} {c : Instr}
    (hc : (∃ lines readback, c = .scanTick lines readback) ∨ c = .serviceDeadlineExpiry ∨ c = .nestedOverrun
      ∨ (∃ i, c = .claimDeadlineExpiry i) ∨ c = .watchdogExpiry)
    (hidle : s.link.phase = .shifting → s.link.idle < 19) : ∃ t, exec c s = .next t ∧ HoldStep s t := by
  have htick := holdFrame_tick s
  have hs := HoldFrame.refl s
  rcases hc with ⟨lines, readback, rfl⟩ | rfl | rfl | ⟨i, rfl⟩ | rfl
  · exact ⟨_, rfl, holdStep_scanTick hidle lines readback⟩
  · refine ⟨_, rfl, ?_⟩
    split
    · split
      · exact .refl s
      · exact (HoldFrame.finish (htick.expireService (w := begin s) hs _)).step
    · exact .refl s
  · refine ⟨_, rfl, ?_⟩
    split
    · split
      · exact (HoldFrame.finish (htick.expireNested (w := begin s) hs _)).step
      · exact .refl s
    · exact .refl s
  · refine ⟨_, rfl, ?_⟩
    split
    · next hd => exact (HoldFrame.finish (htick.expireClaim (w := begin s) hs (mem_of_claimDeadline_runs hd.2.2))).step
    · exact .refl s
  · refine ⟨_, rfl, ?_⟩
    split
    · exact (HoldFrame.finish (htick.expireWatchdog (w := begin s) hs)).step
    · exact .refl s

/-- Settles O18. -/
theorem holdGuardsTheNextWrite : Obligations.HoldGuardsTheNextWrite := by
  unfold Obligations.HoldGuardsTheNextWrite
  refine ⟨?places, ?broken, ?unbroken, ?ticks⟩
  case places =>
    intro s index data tag r hi hid hr ha
    exact congrArg Host.Outcome.next (sendRequest_hold tag hi (hears_own hid) rfl hr ha)
  case broken =>
    intro s c index data tag r h hi hid hf hr ha hh hn hc
    have hb : s.brokenFor (.directed s.mc.nodeId) index = true := by
      rw [State.brokenFor, hh]
      simp [destDirected, hn, hc]
    rw [exec_of_frameOf hf]
    exact congrArg Host.Outcome.next (sendRequest_write_broken tag hi (hears_own hid) hb hr ha)
  case unbroken =>
    intro s c index data tag h hi hid hf hh hc
    have hb : s.brokenFor (.directed s.mc.nodeId) index = false := by
      rw [State.brokenFor, hh]
      by_cases hn : h.index = index
      · simp [hc hn]
      · simp [hn]
    obtain ⟨hsame, hout, hfree⟩ := sendRequest_write_unbroken (data := data) tag hi (hears_own hid) hb
    rw [exec_of_frameOf hf, exec_of_frameOf hf]
    exact ⟨congrArg Host.Outcome.next hsame, _, rfl, hout, hfree⟩
  case ticks =>
    intro s c r h hc hidle hh hr ha
    obtain ⟨t, hx, ht⟩ := exec_holdStep hc hidle
    refine ⟨t, hx, ?_, ht.readReg ha⟩
    rw [ht.follows.hold, hh, Option.map_some, ht.showsOther hr ha]

end Sys2Proof.Machine
end
